-- ==== Sys2Proof/Word.lean ====
section
/-! DEFINITION. The word types of the LZ2430: octets, the 16-bit and the 32-bit numbers of the manual (0.7). -/

namespace Sys2Proof

/-- Eight bits, the unit of the link (0.6). -/
abbrev Octet := BitVec 8

/-- A two-octet number: a SEQ, a tag, a sequence of an event record, a CHECK (chapter 11). -/
abbrev Word16 := BitVec 16

/-- A four-octet number that wraps: network time, the local tick counter, the counters (R36, R61, R63, R104). -/
abbrev Word32 := BitVec 32

end Sys2Proof
end

