-- ==== Sys2Proof/Syntax.lean ====
section
/-! DEFINITION. The commands: one constructor for each row of spec/opcode_table.json, with the row's operands. -/

namespace Sys2Proof

/-- The output banks (0.4, R107). -/
inductive BankId where
  | a | b | c
  deriving DecidableEq, Repr

/-- The header fields of a frame that its sender chooses; KIND and LEN follow from the row (R7, Table 11.1). -/
structure Header where
  dest : Octet
  src  : Octet
  hops : Octet
  seq  : Word16
  deriving DecidableEq, Repr

/-- The commands the block takes. The rows named after frames are the arrival of that whole frame on Upstream-In, from
its OPEN to its CLOSE, with a correct LEN and CHECK (log entry 11). -/
inductive Instr where
  /-- RESETN_FALL: RESETn falls (R109). -/
  | resetnFall
  /-- RESETN_RISE: RESETn rises while the straps stand as given (R61, R49). -/
  | resetnRise (straps : BitVec 6)
  /-- TICK_EVENT: one local tick (R63). -/
  | tickEvent
  /-- START_UP_COMPLETION: the local tick counter has reached 256 (R17). -/
  | startUpCompletion
  /-- LEAVE_BYPASS: the transmitter leaves BYPASS (R17). -/
  | leaveBypass
  /-- IDLE: an IDLE symbol arrives (R3). -/
  | idle
  /-- OPEN: an OPEN symbol arrives (R10). -/
  | openSymbol
  /-- DATA_OCTET: a data octet arrives (R11). -/
  | dataOctet (octet : Octet)
  /-- ABORT: an ABORT symbol arrives (R14). -/
  | abort
  /-- INVALID_SYMBOL: a symbol arrives that decodes as none of the valid ones (R4). -/
  | invalidSymbol
  /-- LOSS_OF_ACTIVITY: no symbol has arrived for 2 consecutive ticks (R2). -/
  | lossOfActivity
  /-- LINK_TIMER_EXPIRY: the link timer's expiry is taken (R5). -/
  | linkTimerExpiry
  /-- CLOSE: a CLOSE symbol arrives (R12). -/
  | closeSymbol
  /-- TIME_MARK: a TIME-MARK frame arrives (R66). -/
  | timeMark (h : Header) (markTime : Word32) (epoch hopsTaken attention : Octet)
  /-- SCHEDULE: a SCHEDULE frame arrives (R87). -/
  | schedule (h : Header) (payload : List Octet)
  /-- BROADCAST_DISARM: a COMMAND frame to address 255 with the payload 08H alone arrives (R133). -/
  | broadcastDisarm (src hops : Octet) (seq : Word16)
  /-- DUE_EXPIRY: the due expiry of the head step is taken (R93). -/
  | dueExpiry
  /-- DEAD_TIME_EXPIRY: the expiry of a bank's pending transition is taken (R114). -/
  | deadTimeExpiry (bank : BankId)
  /-- PULSE_EXPIRY: the expiry of a line's pulse is taken (R117). -/
  | pulseExpiry (bank : BankId) (line : Fin 8)
  /-- CADENCE_EDGE: the edge a line's cadence has reached is taken (R119). -/
  | cadenceEdge (bank : BankId) (line : Fin 8)
  /-- MARK_TIMER_EXPIRY: the mark timer's expiry is taken (R75). -/
  | markTimerExpiry
  /-- HOLDOVER_TIMER_EXPIRY: the holdover timer's expiry is taken (R76). -/
  | holdoverTimerExpiry
  /-- TRANSMIT_COMPLETION: the CLOSE of the frame being sent has gone out; the straps as they stand then (R44, R49). -/
  | transmitCompletion (straps : BitVec 6)
  /-- IDENT (R147). -/
  | ident (h : Header)
  /-- STATUS (R148). -/
  | status (h : Header) (page : Octet)
  /-- ADDR-GET (R149). -/
  | addrGet (h : Header) (index : Octet)
  /-- ADDR-SET (R57). -/
  | addrSet (h : Header) (index address entryFlags : Octet)
  /-- CONFIG-GET (R151). -/
  | configGet (h : Header) (number : Octet)
  /-- CONFIG-SET (R152). -/
  | configSet (h : Header) (number : Octet) (value : Word32)
  /-- ARM (R129). -/
  | arm (h : Header)
  /-- DISARM (R132). -/
  | disarm (h : Header)
  /-- LINE-SET with mode STATIC: P is the value, Q is not read (R121). -/
  | lineSetStatic (h : Header) (line : Octet) (value q : Word16)
  /-- LINE-SET with mode CADENCE: P is the period, Q the on-time (R120). -/
  | lineSetCadence (h : Header) (line : Octet) (period onTime : Word16)
  /-- CANCEL (R98). -/
  | cancel (h : Header) (tag : Word16)
  /-- FLUSH (R99). -/
  | flush (h : Header) (bankSet : Octet)
  /-- QUEUE-PEEK (R103). -/
  | queuePeek (h : Header) (start count : Octet)
  /-- EVENT-FETCH (R170). -/
  | eventFetch (h : Header) (max : Octet)
  /-- EVENT-ACK (R172). -/
  | eventAck (h : Header) (sequence : Word16)
  /-- RESET SOFT (R161). -/
  | resetSoft (h : Header)
  /-- RESET FULL (R162). -/
  | resetFull (h : Header)
  /-- IDLE_SYMBOL_SENT: outside BYPASS the transmitter finishes one IDLE symbol (R38). -/
  | idleSymbolSent
  deriving DecidableEq, Repr

end Sys2Proof
end

