-- ==== Sys2Proof/Decode.lean ====
section
/-! DEFINITION. The command that a word of opcode_table.json spells. -/

namespace Sys2Proof

/-- No row of spec/opcode_table.json has bits (every "fields" is empty and no row has "fixed"), so no word spells a
command. -/
def decodeTableWord (_nbits _w : Nat) : Option Instr := none

end Sys2Proof
end

