-- ==== Sys2Proof/Config.lean ====
section
/-! DEFINITION. What the part fixes once and for all, and the one free value of the model. -/

namespace Sys2Proof

/-- FREE VALUE (log entry 6). Where the sender leaves several expiries of one tick untaken until the next tick, the
manual lets them be taken in any order (R95, R115, R116, R124, R135). The n-th such choice takes the expiry at place
`Config.expiryOrder n` of those outstanding, modulo their number. No body: nothing can be proved of it. -/
opaque Config.expiryOrder : Nat → Nat

/-- The ten frame buffers (R18). -/
def Config.bufferCount : Nat := 10

/-- The limit of the insert side (R39). -/
def Config.insertLimit : Nat := 3

/-- The capacity of the Step Queue (R84). -/
def Config.stepLimit : Nat := 64

/-- The capacity of the Event List (R165). -/
def Config.eventLimit : Nat := 16

/-- The largest payload of a frame (R7, Table 1.3). -/
def Config.payloadLimit : Nat := 96

/-- The octets a buffer holds: header, payload and CHECK (1.4). -/
def Config.bufferOctets : Nat := 105

/-- The IDLE run that gives IN-SYNC, and the valid run that clears the error run (R3, R4). -/
def Config.syncRun : Nat := 16

/-- The error run that ends IN-SYNC (R4). -/
def Config.errorLimit : Nat := 4

/-- The consecutive ticks without a symbol that are a loss of activity (R2). -/
def Config.silentTicks : Nat := 2

/-- The local tick at which start-up completes (R17). -/
def Config.startUpTicks : Nat := 256

/-- IDENT's part number (R147). -/
def Config.partNumber : Word16 := 2430#16

/-- IDENT's revision letter B as its character code (Table 11.10). -/
def Config.revision : Octet := 0x42#8

end Sys2Proof
end

