-- ==== Sys2Proof/Machine/State.lean ====
section
/-! DEFINITION. The state of the LZ2430, one record for each block that owns state (Table 0.2), as plain data, and its
values at reset. INVENTORY.md lists every field with the rule that names it. -/

namespace Sys2Proof.Machine

/-! ## Link Receiver (chapter 1) -/

/-- The receiver states (1.2). -/
inductive RxState where
  | noSignal | hunting | inSync
  deriving DecidableEq, Repr

/-- The link state (1.3). -/
inductive LinkState where
  | down | up
  deriving DecidableEq, Repr

/-- The conditions of frame assembly (1.5); assembling holds the one RECEIVING buffer with the octets stored so far. -/
inductive Assembly where
  | outside
  | assembling (octets : List Octet)
  | skipping
  deriving DecidableEq, Repr

/-- What the Link Receiver owns. A timer is none when stopped; the value 0 is "reached, its expiry not yet taken". silence
counts the ticks since the last symbol, up to 2 (R2). -/
structure LinkReceiver where
  rx : RxState
  silence : Nat
  idleRun : Nat
  errorRun : Nat
  validRun : Nat
  link : LinkState
  linkTimer : Option Nat
  linkTimeout : Nat
  assembly : Assembly
  bracketOpen : Bool
  deriving DecidableEq, Repr

/-- The Link Receiver at pin reset and at the start of a full reset (R2, R5, R10, R16). -/
def LinkReceiver.reset : LinkReceiver where
  rx := .noSignal
  silence := 0
  idleRun := 0
  errorRun := 0
  validRun := 0
  link := .down
  linkTimer := none
  linkTimeout := 2000
  assembly := .outside
  bracketOpen := false

/-! ## Frame buffers (chapters 2 and 3) -/

/-- A frame by its named fields; LEN is the length of the payload (R7, Table 11.1). -/
structure Frame where
  dest : Octet
  src : Octet
  kind : Octet
  hops : Octet
  seq : Word16
  payload : List Octet
  deriving DecidableEq, Repr

/-- A buffer that holds a whole frame: its contents, its CHECK octets, the check-current mark (R42) and the mark of the
reply a pending full reset waits for (R45). -/
structure Buffer where
  frame : Frame
  check : Word16
  checkCurrent : Bool
  resetReply : Bool
  deriving DecidableEq, Repr

/-- The FREE buffers, counted (log entry 12), and the Repeat Queue, oldest first (R18, R34). -/
structure BufferPool where
  free : Nat
  repeatQueue : List Buffer
  deriving DecidableEq, Repr

/-- The pool at pin reset and at the start of a full reset (R20). -/
def BufferPool.reset : BufferPool where
  free := Config.bufferCount
  repeatQueue := []

/-- The nine receive-side counters (R35). -/
structure ReceiveCounters where
  framesGood : Word32
  framesRepeated : Word32
  framesConsumed : Word32
  frameErrors : Word32
  noBufferDrops : Word32
  returned : Word32
  expired : Word32
  filtered : Word32
  duplicateSchedules : Word32
  deriving DecidableEq, Repr

/-- The counters at pin reset and at the start of a full reset (R36). -/
def ReceiveCounters.reset : ReceiveCounters where
  framesGood := 0
  framesRepeated := 0
  framesConsumed := 0
  frameErrors := 0
  noBufferDrops := 0
  returned := 0
  expired := 0
  filtered := 0
  duplicateSchedules := 0

/-! ## Downstream Transmitter (chapter 3) -/

/-- Where a TRANSMITTING buffer was taken from (R18). -/
inductive Tag where
  | fromRepeat | fromInsert
  deriving DecidableEq, Repr

/-- The transmitter states; SENDING holds the one TRANSMITTING buffer (R37). -/
inductive TxState where
  | bypass
  | idleFill
  | sending (buffer : Buffer) (tag : Tag)
  deriving DecidableEq, Repr

/-- What the Downstream Transmitter owns; startUpDone says that start-up has completed since the last reset (R17). -/
structure Transmitter where
  state : TxState
  insertQueue : List Buffer
  credit : Nat
  gap : Nat
  framesSent : Word32
  startUpDone : Bool
  deriving DecidableEq, Repr

/-- The transmitter at pin reset and at the start of a full reset (R37, R39, R40, R46). -/
def Transmitter.reset : Transmitter where
  state := .bypass
  insertQueue := []
  credit := 0
  gap := 0
  framesSent := 0
  startUpDone := false

/-! ## Address Table (chapter 4) -/

/-- One entry; it is enabled exactly when it holds an address (Table 4.1). -/
structure AddrEntry where
  address : Option Octet
  bankMask : BitVec 3
  acceptMark : Bool
  acceptSchedule : Bool
  lastSeq : Option Word16
  deriving DecidableEq, Repr

/-- The nine entries and the kept strap value (R47, R49). -/
structure AddressTable where
  entries : Vector AddrEntry 9
  strapValue : BitVec 6
  deriving DecidableEq, Repr

/-- A group entry after reset (Table 4.3). -/
def AddrEntry.groupReset : AddrEntry where
  address := none
  bankMask := 0
  acceptMark := false
  acceptSchedule := false
  lastSeq := none

/-- Entry 0 or entry 8 after reset, at the address given (Table 4.3). -/
def AddrEntry.openReset (address : Octet) : AddrEntry where
  address := some address
  bankMask := 7
  acceptMark := true
  acceptSchedule := true
  lastSeq := none

/-- The Address Table after the straps have been sampled at a reset (R48, R49). -/
def AddressTable.sampled (straps : BitVec 6) : AddressTable where
  entries :=
    #v[AddrEntry.openReset (straps.zeroExtend 8 + 1), .groupReset, .groupReset, .groupReset, .groupReset, .groupReset,
      .groupReset, .groupReset, AddrEntry.openReset 255]
  strapValue := straps

/-! ## Timebase (chapter 5) -/

/-- The sync states (5.4). -/
inductive SyncState where
  | unsynced | acquiring | locked | holdover
  deriving DecidableEq, Repr

/-- What the Timebase owns (Table 5.1, Table 5.4, R61, R63). -/
structure Timebase where
  localTicks : Word32
  networkTime : Word32
  sync : SyncState
  epoch : Option Octet
  goodMarks : Nat
  outliers : Nat
  residue : Int
  markTimer : Option Nat
  holdoverTimer : Option Nat
  lockWindow : Nat
  slewLimit : Nat
  markTimeout : Nat
  holdoverLimit : Nat
  hopDelay : Nat
  deriving DecidableEq, Repr

/-- The Timebase at pin reset and at the start of a full reset (R81). -/
def Timebase.reset : Timebase where
  localTicks := 0
  networkTime := 0
  sync := .unsynced
  epoch := none
  goodMarks := 0
  outliers := 0
  residue := 0
  markTimer := none
  holdoverTimer := none
  lockWindow := 8
  slewLimit := 200
  markTimeout := 250000
  holdoverLimit := 5000000
  hopDelay := 0

/-! ## Step Queue (chapter 6) -/

/-- The transition modes of a step (Table 6.1). -/
inductive TransitionMode where
  | plain | breakBeforeMake
  deriving DecidableEq, Repr

/-- The late policies of a step (Table 6.1). -/
inductive LatePolicy where
  | drop | apply
  deriving DecidableEq, Repr

/-- A step (Table 6.1). -/
structure Step where
  tag : Word16
  due : Word32
  bank : BankId
  value : Octet
  mask : Octet
  mode : TransitionMode
  policy : LatePolicy
  pulse : Option Word16
  source : Fin 9
  deriving DecidableEq, Repr

/-- The seven step counters (R104). -/
structure StepCounters where
  accepted : Word32
  applied : Word32
  lateApplied : Word32
  lateDropped : Word32
  suppressed : Word32
  cancelled : Word32
  flushed : Word32
  deriving DecidableEq, Repr

/-- The step counters after a reset (R85). -/
def StepCounters.reset : StepCounters where
  accepted := 0
  applied := 0
  lateApplied := 0
  lateDropped := 0
  suppressed := 0
  cancelled := 0
  flushed := 0

/-- What the Step Queue owns: the held steps, head first, the counters and two parameters (R83, R84, R104, R106). -/
structure StepQueue where
  held : List Step
  counters : StepCounters
  acceptWindow : Nat
  lateLimit : Nat
  deriving DecidableEq, Repr

/-- The Step Queue at pin reset and at the start of a full reset (R85). -/
def StepQueue.reset : StepQueue where
  held := []
  counters := .reset
  acceptWindow := 16777216
  lateLimit := 500

/-! ## Output Unit (chapter 7) -/

/-- A pending pulse of a line in a make set (Table 7.2). -/
structure PendingPulse where
  width : Word16
  mode : TransitionMode
  deriving DecidableEq, Repr

/-- A pending transition: make set, ticks left (0: its expiry not yet taken), pending pulses by line (Table 7.2). -/
structure Transition where
  makeSet : Octet
  timer : Nat
  pulses : Vector (Option PendingPulse) 8
  deriving DecidableEq, Repr

/-- A line record (Table 7.3). In CADENCE, edgeDue says that the phase has reached an edge not yet taken
(log entry 20). -/
inductive LineMode where
  | static
  | pulse (revert : Bool) (left : Nat) (mode : TransitionMode)
  | cadence (period onTime phase : Nat) (edgeDue : Bool)
  deriving DecidableEq, Repr

/-- One bank (Table 7.1) with its eight line records. -/
structure Bank where
  latch : Octet
  safePattern : Octet
  deadTime : Octet
  transition : Option Transition
  lines : Vector LineMode 8
  deriving DecidableEq, Repr

/-- A bank at pin reset and at the start of a full reset (R107, R108). -/
def Bank.reset : Bank where
  latch := 0
  safePattern := 0
  deadTime := 4
  transition := none
  lines := Vector.replicate 8 .static

/-- The three banks (R107). -/
structure OutputUnit where
  bankA : Bank
  bankB : Bank
  bankC : Bank
  deriving DecidableEq, Repr

/-- The Output Unit at pin reset and at the start of a full reset (R107, R109). -/
def OutputUnit.reset : OutputUnit where
  bankA := .reset
  bankB := .reset
  bankC := .reset

/-! ## Run Control, Command Unit (chapters 8 and 9) -/

/-- The run states (R128). -/
inductive RunState where
  | safe | armed | failsafe
  deriving DecidableEq, Repr

/-- The Last Command Record when present (R140). -/
structure LastCommand where
  src : Octet
  seq : Word16
  payload : List Octet
  deriving DecidableEq, Repr

/-- What the Command Unit owns (R140); the buffer a pending reset waits for carries Buffer.resetReply. -/
structure CommandUnit where
  last : Option LastCommand
  resetPending : Bool
  deriving DecidableEq, Repr

/-- The Command Unit at pin reset and at the start of a full reset (R140). -/
def CommandUnit.reset : CommandUnit where
  last := none
  resetPending := false

/-! ## Event List (chapter 10) -/

/-- The severities, in rising order (R164). -/
inductive Severity where
  | info | warning | alarm
  deriving DecidableEq, Repr

/-- The kinds of record (Table 10.2). -/
inductive EventKind where
  | reset | frameError | noBuffer | returned | unexpectedFrame | commandDropped | linkChange | syncChange | timeStepped
  | stepRejected | badSchedule | lateApplied | lateDropped | suppressed | flushed | runChange | overflow
  deriving DecidableEq, Repr

/-- An event record (Table 10.1); reason is a code of its kind (Table 11.12). -/
structure EventRecord where
  sequence : Word16
  kind : EventKind
  severity : Severity
  time : Word32
  timeValid : Bool
  count : Nat
  reason : Option Octet
  tag : Option Word16
  detail : Option Word32
  fetched : Bool
  deriving DecidableEq, Repr

/-- What the Event List owns, records oldest first (R165, R175). -/
structure EventList where
  records : List EventRecord
  nextSeq : Word16
  overflow : Nat
  attentionLevel : Severity
  deriving DecidableEq, Repr

/-- The Event List emptied by a reset, before its RESET record (R166, R175). -/
def EventList.reset : EventList where
  records := []
  nextSeq := 0
  overflow := 0
  attentionLevel := .warning

/-! ## Downstream-Out, and the state of the node -/

/-- The symbols of the link (Table 1.1). -/
inductive Symbol where
  | data (octet : Octet)
  | idle | openSymbol | closeSymbol | abort | invalid
  deriving DecidableEq, Repr

/-- An item of the record of Downstream-Out (log entry 10): one symbol, mirrored or IDLE; one whole frame (OPEN, these
octets, CLOSE); or a frame whose sending a fall of RESETn cut off at a place the model does not say (R16). -/
inductive Sent where
  | symbol (sym : Symbol)
  | frame (octets : List Octet)
  | cutFrame (octets : List Octet)
  deriving DecidableEq, Repr

/-- The state of the node, with the commands that wait. The last three fields are the model's own. -/
structure State where
  /-- the level of RESETn, true when high -/
  resetn : Bool
  link : LinkReceiver
  pool : BufferPool
  rx : ReceiveCounters
  tx : Transmitter
  table : AddressTable
  time : Timebase
  steps : StepQueue
  out : OutputUnit
  run : RunState
  cmd : CommandUnit
  events : EventList
  /-- what Downstream-Out has carried, oldest first (log entry 10) -/
  downstream : List Sent
  /-- how many free orders have been chosen (log entry 6) -/
  choices : Nat
  /-- the commands that wait, first in, first out (log entry 1) -/
  pending : List Instr
  deriving DecidableEq, Repr

/-- The node at pin reset, RESETn still low: every block at its pin-reset value (R2, R5, R20, R36, R37, R48, R81, R85,
R107, R109, R128, R140, R166). The strap value before the first sampling is the model's 0 (log entry 3). -/
def State.reset : State where
  resetn := false
  link := .reset
  pool := .reset
  rx := .reset
  tx := .reset
  table := .sampled 0
  time := .reset
  steps := .reset
  out := .reset
  run := .safe
  cmd := .reset
  events := .reset
  downstream := []
  choices := 0
  pending := []

/-- Why a step could stop: never. The node raises no exception and every command leaves a next state, so this type has no
constructor. -/
inductive Fault where
  deriving DecidableEq, Repr

/-- Why a command could be refused. -/
inductive Refusal where
  /-- Raised by exec's own arm for a command without a meaning; no arm raises it now. Safe: the machine stops. -/
  | notModelled (mnemonic : String)
  deriving DecidableEq, Repr

/-- What a command answers. -/
abbrev Result := Host.Outcome State Fault Refusal

end Sys2Proof.Machine
end

