-- ==== Sys2Proof/Machine/Operands.lean ====
section
/-! DEFINITION. The octet layouts of chapter 11: numbers of several octets, the CHECK, frames, SCHEDULE payloads, command
codes and parameter numbers; and the comparison of network times (0.7). -/

namespace Sys2Proof.Machine

/-! ## Numbers of several octets, most significant first (0.7) -/

/-- The two octets of a 16-bit number. -/
def octets16 (w : Word16) : List Octet := [w.extractLsb' 8 8, w.extractLsb' 0 8]

/-- The four octets of a 32-bit number. -/
def octets32 (w : Word32) : List Octet :=
  [w.extractLsb' 24 8, w.extractLsb' 16 8, w.extractLsb' 8 8, w.extractLsb' 0 8]

/-- The 16-bit number that two octets spell. -/
def word16 (hi lo : Octet) : Word16 := hi ++ lo

/-- The 32-bit number that four octets spell. -/
def word32 (o3 o2 o1 o0 : Octet) : Word32 := word16 o3 o2 ++ word16 o1 o0

/-! ## Comparison of network times and of SEQ (0.7, R54, R88) -/

/-- Time a is after time b when (a - b) mod 2^32 lies in 1..2^31 - 1 (0.7). -/
def isAfter (a b : Word32) : Bool := decide (1 ≤ (a - b).toNat ∧ (a - b).toNat ≤ 2147483647)

/-- The distance ahead of a due time, unsigned (R88). -/
def distanceAhead (due now : Word32) : Nat := (due - now).toNat

/-- The lateness of a due time that is not after network time (R88). -/
def latenessOf (due now : Word32) : Nat := (now - due).toNat

/-- A schedule's SEQ is new after L when (SEQ - L) mod 2^16 lies in 1..32,767 (R54). -/
def seqIsNewer (seq l : Word16) : Bool := decide (1 ≤ (seq - l).toNat ∧ (seq - l).toNat ≤ 32767)

/-! ## The check sequence (R9) -/

/-- One bit of the CRC with polynomial x^16 + x^12 + x^5 + 1. -/
def crcBit (r : Word16) : Word16 := if r.msb then (r <<< 1) ^^^ 0x1021#16 else r <<< 1

/-- One octet into the CRC register, most significant bit first. -/
def crcOctet (r : Word16) (o : Octet) : Word16 :=
  let x := r ^^^ (o ++ 0#8)
  crcBit (crcBit (crcBit (crcBit (crcBit (crcBit (crcBit (crcBit x)))))))

/-- The CRC of a run of octets, from FFFFH, without final inversion (R9). -/
@[irreducible] def crc (octets : List Octet) : Word16 := octets.foldl crcOctet 0xFFFF#16

/-! ## Frames (Table 11.1) -/

/-- LEN of a frame. -/
def Frame.len (f : Frame) : Octet := BitVec.ofNat 8 f.payload.length

/-- Header and payload in the order they are sent (Table 11.1). -/
def Frame.octets (f : Frame) : List Octet :=
  [f.dest, f.src, f.kind, f.hops] ++ octets16 f.seq ++ [f.len] ++ f.payload

/-- The CHECK of a frame (R9). -/
def Frame.checkOf (f : Frame) : Word16 := crc f.octets

/-- Everything between OPEN and CLOSE as it stands in a buffer (R38). -/
def Buffer.octets (b : Buffer) : List Octet := b.frame.octets ++ octets16 b.check

/-- The length check of R12: at least 9 octets, LEN at most 96, LEN + 9 octets in all. -/
def lengthGood (octets : List Octet) : Bool :=
  match octets[6]? with
  | none => false
  | some len => decide (9 ≤ octets.length ∧ len.toNat ≤ Config.payloadLimit ∧ octets.length = len.toNat + 9)

/-- The check of R9 and R12: the register holds 0000H after the two CHECK octets. -/
def checkGood (octets : List Octet) : Bool := crc octets == 0

/-- The buffer that a run of received octets makes, read at the offsets of Table 11.1 (R177); its CHECK has just passed
R12, so it is current (R42). None when there are fewer than seven octets. -/
def bufferOf (octets : List Octet) : Option Buffer :=
  match octets with
  | dest :: src :: kind :: hops :: s1 :: s0 :: len :: rest =>
    let check := rest.drop len.toNat
    some { frame := { dest, src, kind, hops, seq := word16 s1 s0, payload := rest.take len.toNat },
           check := word16 (check.getD 0 0) (check.getD 1 0), checkCurrent := true, resetReply := false }
  | _ => none

/-- The kinds of frame (Table 1.4). -/
inductive FrameKind where
  | timeMark | schedule | command | reply | unknown
  deriving DecidableEq, Repr

/-- KIND codes (Table 1.4). -/
def kindTimeMark : Octet := 0x51
def kindSchedule : Octet := 0x52
def kindCommand : Octet := 0x53
def kindReply : Octet := 0x54

/-- A frame's kind; a frame of KIND 51H whose LEN is not 7 is of unknown kind (R8, R21). -/
def Frame.kindOf (f : Frame) : FrameKind :=
  if f.kind = kindTimeMark then (if f.payload.length = 7 then .timeMark else .unknown)
  else if f.kind = kindSchedule then .schedule
  else if f.kind = kindCommand then .command
  else if f.kind = kindReply then .reply
  else .unknown

/-- The payload of a TIME-MARK (Table 11.2). -/
def markPayload (markTime : Word32) (epoch hopsTaken attention : Octet) : List Octet :=
  octets32 markTime ++ [epoch, hopsTaken, attention]

/-- The command code of a COMMAND frame, 00H when its payload is empty (R29, R143). -/
def Frame.codeOctet (f : Frame) : Octet := f.payload.headD 0

/-! ## SCHEDULE payloads (Tables 11.3 and 11.4, R86, R177) -/

/-- The bank that bits 1..0 of a control octet name; 3 names none (Table 11.4). -/
def controlBank (c : Octet) : Option BankId :=
  match c.getLsbD 1, c.getLsbD 0 with
  | false, false => some .a
  | false, true => some .b
  | true, false => some .c
  | true, true => none

/-- Reserved bits 7..5 of a control octet (Table 11.4). -/
def controlReserved (c : Octet) : Bool := c &&& 0xE0#8 != 0

/-- The pulse width a record carries; a present width of 0 gives a step without one (R86, R177). -/
def pulseWidth (w : Word16) : Option Word16 := if w = 0 then none else some w

/-- One record at the front of some octets, and the octets after it; none where the octets end inside it, a reserved bit is
set or the bank field is 3 (R86 checks 2 to 4). The whole value octet is kept (log entry 14). -/
def readRecord (source : Fin 9) : List Octet → Option (Step × List Octet)
  | t1 :: t0 :: d3 :: d2 :: d1 :: d0 :: c :: value :: mask :: rest =>
    match controlBank c with
    | none => none
    | some bank =>
      let st : Step :=
        { tag := word16 t1 t0, due := word32 d3 d2 d1 d0, bank, value, mask,
          mode := if c.getLsbD 2 then .breakBeforeMake else .plain,
          policy := if c.getLsbD 3 then .apply else .drop,
          pulse := none, source }
      if controlReserved c then none
      else if c.getLsbD 4 then
        match rest with
        | w1 :: w0 :: rest' => some ({ st with pulse := pulseWidth (word16 w1 w0) }, rest')
        | _ => none
      else some (st, rest)
  | _ => none

/-- COUNT records, and nothing after the last (R86 check 2). -/
def readRecords (source : Fin 9) : Nat → List Octet → Option (List Step)
  | 0, [] => some []
  | 0, _ :: _ => none
  | n + 1, octets =>
    match readRecord source octets with
    | none => none
    | some (st, rest) => (readRecords source n rest).map (st :: ·)

/-- The steps of a SCHEDULE payload in frame order, or none when it is malformed (R86). -/
def readSchedule (source : Fin 9) : List Octet → Option (List Step)
  | [] => none
  | count :: octets =>
    if count.toNat = 0 ∨ 8 < count.toNat then none else readRecords source count.toNat octets

/-! ## Commands (Tables 11.5 and 11.7) -/

/-- The sixteen commands. -/
inductive CommandCode where
  | ident | status | addrGet | addrSet | configGet | configSet | arm | disarm | lineSet | cancel | flush | queuePeek
  | eventFetch | eventAck | resetSoft | resetFull
  deriving DecidableEq, Repr

/-- The code octet of a command (Table 11.5). -/
def CommandCode.octet : CommandCode → Octet
  | .ident => 0x01
  | .status => 0x02
  | .addrGet => 0x03
  | .addrSet => 0x04
  | .configGet => 0x05
  | .configSet => 0x06
  | .arm => 0x07
  | .disarm => 0x08
  | .lineSet => 0x09
  | .cancel => 0x0A
  | .flush => 0x0B
  | .queuePeek => 0x0C
  | .eventFetch => 0x0D
  | .eventAck => 0x0E
  | .resetSoft => 0x0F
  | .resetFull => 0x10

/-- The command that a code octet names; 00H and 11H or above name none (R178). -/
def commandOf (code : Octet) : Option CommandCode :=
  [CommandCode.ident, .status, .addrGet, .addrSet, .configGet, .configSet, .arm, .disarm, .lineSet, .cancel, .flush,
    .queuePeek, .eventFetch, .eventAck, .resetSoft, .resetFull].find? fun c => c.octet == code

/-- The configuration parameters (Table 9.7). -/
inductive Param where
  | acceptWindow | lateLimit | deadTime (bank : BankId) | safePattern (bank : BankId) | lockWindow | slewLimit
  | markTimeout | holdoverLimit | hopDelay | linkTimeout | attentionLevel
  deriving DecidableEq, Repr

/-- The parameter that a number names (Table 11.7). -/
def paramOf (number : Octet) : Option Param :=
  match number.toNat with
  | 1 => some .acceptWindow
  | 2 => some .lateLimit
  | 3 => some (.deadTime .a)
  | 4 => some (.deadTime .b)
  | 5 => some (.deadTime .c)
  | 6 => some (.safePattern .a)
  | 7 => some (.safePattern .b)
  | 8 => some (.safePattern .c)
  | 9 => some .lockWindow
  | 10 => some .slewLimit
  | 11 => some .markTimeout
  | 12 => some .holdoverLimit
  | 13 => some .hopDelay
  | 14 => some .linkTimeout
  | 15 => some .attentionLevel
  | _ => none

/-- The least and the greatest value of a parameter (Table 9.7; ATTENTION-LEVEL by its codes 0 to 2). -/
def Param.range : Param → Nat × Nat
  | .acceptWindow => (1, 536870912)
  | .lateLimit => (0, 65535)
  | .deadTime _ => (0, 255)
  | .safePattern _ => (0, 255)
  | .lockWindow => (1, 255)
  | .slewLimit => (1, 65535)
  | .markTimeout => (1000, 1000000)
  | .holdoverLimit => (1000, 60000000)
  | .hopDelay => (0, 65535)
  | .linkTimeout => (100, 65535)
  | .attentionLevel => (0, 2)

/-- A value within a parameter's range (R152 check 2). -/
def Param.admits (p : Param) (value : Word32) : Bool :=
  decide (p.range.1 ≤ value.toNat ∧ value.toNat ≤ p.range.2)

end Sys2Proof.Machine
end

