-- ==== Sys2Proof/Machine/Flags.lean ====
section
/-! DEFINITION. The codes and flag octets of replies and records (Tables 11.4, 11.6, 11.8, 11.9, 11.11, 11.12). -/

namespace Sys2Proof.Machine

/-- Run state codes (Table 11.9). -/
def RunState.code : RunState → BitVec 2
  | .safe => 0
  | .armed => 1
  | .failsafe => 2

/-- Sync state codes (Table 11.9). -/
def SyncState.code : SyncState → BitVec 2
  | .unsynced => 0
  | .acquiring => 1
  | .locked => 2
  | .holdover => 3

/-- Link state codes (Table 11.9). -/
def LinkState.code : LinkState → BitVec 1
  | .down => 0
  | .up => 1

/-- Receiver state codes (11.4, STATUS page 0). -/
def RxState.code : RxState → Octet
  | .noSignal => 0
  | .hunting => 1
  | .inSync => 2

/-- Bank codes (Tables 11.4 and 11.10). -/
def bankCode : BankId → BitVec 2
  | .a => 0
  | .b => 1
  | .c => 2

/-- Severity codes, in rising order (Table 11.11, ATTENTION-LEVEL). -/
def Severity.code : Severity → BitVec 2
  | .info => 0
  | .warning => 1
  | .alarm => 2

/-- The severity of an ATTENTION-LEVEL code. -/
def severityOf (value : Word32) : Severity :=
  match value.toNat with
  | 0 => .info
  | 1 => .warning
  | _ => .alarm

/-- A severity is at least a level when it is that level or a later one (R164). -/
def Severity.atLeast (s level : Severity) : Bool := decide (level.code.toNat ≤ s.code.toNat)

/-- A single flag bit. -/
def flagBit (b : Bool) : BitVec 1 := BitVec.ofBool b

/-- A number in one octet. -/
def octetOf (n : Nat) : Octet := BitVec.ofNat 8 n

/-- The state octet (Table 11.9). -/
def stateOctet (run : RunState) (sync : SyncState) (link : LinkState) (attention : Bool) : Octet :=
  run.code ++ sync.code ++ link.code ++ flagBit attention ++ 0#2

/-- The entry flags of a reply (Table 11.6, R179). -/
def AddrEntry.flags (e : AddrEntry) : Octet :=
  flagBit e.address.isSome ++ flagBit e.lastSeq.isSome ++ flagBit e.acceptSchedule ++ flagBit e.acceptMark ++ 0#1 ++ e.bankMask

/-- The control octet of a step as QUEUE-PEEK reports it (11.4, Table 11.4). -/
def Step.control (st : Step) : Octet :=
  0#3 ++ flagBit st.pulse.isSome ++ flagBit (st.policy == .apply) ++ flagBit (st.mode == .breakBeforeMake) ++ bankCode st.bank

/-- Kind codes (Table 11.12). -/
def EventKind.code : EventKind → Octet
  | .reset => 0x01
  | .frameError => 0x02
  | .noBuffer => 0x03
  | .returned => 0x04
  | .unexpectedFrame => 0x05
  | .commandDropped => 0x06
  | .linkChange => 0x07
  | .syncChange => 0x08
  | .timeStepped => 0x09
  | .stepRejected => 0x0A
  | .badSchedule => 0x0B
  | .lateApplied => 0x0C
  | .lateDropped => 0x0D
  | .suppressed => 0x0E
  | .flushed => 0x0F
  | .runChange => 0x10
  | .overflow => 0x11

/-- The record flags (Table 11.11). -/
def EventRecord.flags (r : EventRecord) : Octet :=
  0#3 ++ flagBit r.detail.isSome ++ flagBit r.tag.isSome ++ flagBit r.timeValid ++ r.severity.code

/-- A record as EVENT-FETCH reports it: 17 octets, absent fields as zeros (Table 11.11, R179). -/
def EventRecord.octets (r : EventRecord) : List Octet :=
  octets16 r.sequence ++ [r.kind.code, r.flags] ++ octets32 r.time ++ octets16 (BitVec.ofNat 16 r.count)
    ++ [r.reason.getD 0] ++ octets16 (r.tag.getD 0) ++ octets32 (r.detail.getD 0)

/-- A step as QUEUE-PEEK reports it at a position: 13 octets (11.4). -/
def Step.octets (position : Nat) (st : Step) : List Octet :=
  [octetOf position] ++ octets16 st.tag ++ octets32 st.due ++ [st.control, st.value, st.mask]
    ++ octets16 (st.pulse.getD 0) ++ [octetOf st.source.val]

/-- The results of a command (Tables 9.3 and 11.8). -/
inductive CommandResult where
  | done | badFormat | badValue | wrongState | inUse | notHeld | unknown
  deriving DecidableEq, Repr

/-- Result codes (Table 11.8). -/
def CommandResult.code : CommandResult → Octet
  | .done => 0x00
  | .badFormat => 0x01
  | .badValue => 0x02
  | .wrongState => 0x03
  | .inUse => 0x04
  | .notHeld => 0x05
  | .unknown => 0x06

end Sys2Proof.Machine
end

