-- ==== Sys2Proof/Machine/Events.lean ====
section
/-! DEFINITION. The Event List (chapter 10): what a block can report, recording a report (R168), fetching (R170),
acknowledging (R171 to R173) and the attention condition (R174). -/

namespace Sys2Proof.Machine

/-- The causes of a reset (R166). -/
inductive ResetCause where
  | pin | command
  deriving DecidableEq, Repr

/-- The reasons of a receive error (Table 1.5). -/
inductive FrameFault where
  | check | length | oversize | abort | framing | code | link
  deriving DecidableEq, Repr

/-- The classes of an UNEXPECTED-FRAME (R29). -/
inductive EntryClass where
  | unit | group | broadcast
  deriving DecidableEq, Repr

/-- Why a command is dropped (R143). -/
inductive DropReason where
  | resetPending | insertFull
  deriving DecidableEq, Repr

/-- Why a step is rejected (Table 6.2). -/
inductive Rejection where
  | failsafe | noTime | bank | mask | tooFar | tooLate | full
  deriving DecidableEq, Repr

/-- What removed steps as flushed (Table 6.6). -/
inductive FlushCause where
  | command | time | failsafe | softReset | sync
  deriving DecidableEq, Repr

/-- What changed the run state (R139). -/
inductive RunCause where
  | arm | disarm | broadcastDisarm | sync | link | softReset
  deriving DecidableEq, Repr

/-- A report of a block to the Event List (Table 10.2). OVERFLOW is the list's own and carries its count (R173). -/
inductive Report where
  | reset (cause : ResetCause)
  | frameError (reason : FrameFault)
  | noBuffer
  | returned (dest kind : Octet)
  | unexpectedFrame (cls : EntryClass) (dest kind code : Octet)
  | commandDropped (reason : DropReason) (code : Octet) (seq : Word16)
  | linkChange (entered : LinkState)
  | syncChange (left entered : SyncState)
  | timeStepped (amount : Word32) (epochFlag : Bool)
  | stepRejected (reason : Rejection) (tag : Word16)
  | badSchedule (seq : Word16)
  | lateApplied (tag : Word16) (lateness : Nat)
  | lateDropped (tag : Word16) (lateness : Nat)
  | suppressed
  | flushed (cause : FlushCause) (removed : Nat)
  | runChange (cause : RunCause) (left entered : RunState) (removed : Nat)
  | overflow (lost : Nat)
  deriving DecidableEq, Repr

/-- The kind of a report. -/
def Report.kind : Report → EventKind
  | .reset _ => .reset
  | .frameError _ => .frameError
  | .noBuffer => .noBuffer
  | .returned _ _ => .returned
  | .unexpectedFrame _ _ _ _ => .unexpectedFrame
  | .commandDropped _ _ _ => .commandDropped
  | .linkChange _ => .linkChange
  | .syncChange _ _ => .syncChange
  | .timeStepped _ _ => .timeStepped
  | .stepRejected _ _ => .stepRejected
  | .badSchedule _ => .badSchedule
  | .lateApplied _ _ => .lateApplied
  | .lateDropped _ _ => .lateDropped
  | .suppressed => .suppressed
  | .flushed _ _ => .flushed
  | .runChange _ _ _ _ => .runChange
  | .overflow _ => .overflow

/-- Severity, fixed by the kind and for three kinds by the change (Table 10.2, R6, R79, R139). -/
def Report.severity : Report → Severity
  | .linkChange .down => .alarm
  | .linkChange .up => .info
  | .syncChange _ .unsynced => .alarm
  | .syncChange _ _ => .info
  | .runChange _ _ .failsafe _ => .alarm
  | .runChange _ _ _ _ => .info
  | .reset _ | .suppressed | .flushed _ _ => .info
  | .frameError _ | .noBuffer | .returned _ _ | .unexpectedFrame _ _ _ _ | .commandDropped _ _ _ => .warning
  | .timeStepped _ _ | .stepRejected _ _ | .badSchedule _ | .lateApplied _ _ | .lateDropped _ _ | .overflow _ => .warning

/-- The kinds that coalesce (Table 10.2). -/
def EventKind.coalesces : EventKind → Bool
  | .frameError | .noBuffer | .returned | .unexpectedFrame | .commandDropped | .stepRejected | .suppressed => true
  | .reset | .linkChange | .syncChange | .timeStepped | .badSchedule | .lateApplied | .lateDropped | .flushed
  | .runChange | .overflow => false

/-- Reason codes (Table 11.12). -/
def Report.reason : Report → Option Octet
  | .reset .pin => some 1
  | .reset .command => some 2
  | .frameError .check => some 1
  | .frameError .length => some 2
  | .frameError .oversize => some 3
  | .frameError .abort => some 4
  | .frameError .framing => some 5
  | .frameError .code => some 6
  | .frameError .link => some 7
  | .unexpectedFrame .unit _ _ _ => some 1
  | .unexpectedFrame .group _ _ _ => some 2
  | .unexpectedFrame .broadcast _ _ _ => some 3
  | .commandDropped .resetPending _ _ => some 1
  | .commandDropped .insertFull _ _ => some 2
  | .linkChange .down => some 1
  | .linkChange .up => some 2
  | .timeStepped _ true => some 1
  | .stepRejected .failsafe _ => some 1
  | .stepRejected .noTime _ => some 2
  | .stepRejected .bank _ => some 3
  | .stepRejected .mask _ => some 4
  | .stepRejected .tooFar _ => some 5
  | .stepRejected .tooLate _ => some 6
  | .stepRejected .full _ => some 7
  | .flushed .command _ => some 1
  | .flushed .time _ => some 2
  | .flushed .failsafe _ => some 3
  | .flushed .softReset _ => some 4
  | .flushed .sync _ => some 5
  | .runChange .arm _ _ _ => some 1
  | .runChange .disarm _ _ _ => some 2
  | .runChange .broadcastDisarm _ _ _ => some 3
  | .runChange .sync _ _ _ => some 4
  | .runChange .link _ _ _ => some 5
  | .runChange .softReset _ _ _ => some 6
  | .timeStepped _ false | .noBuffer | .returned _ _ | .syncChange _ _ | .badSchedule _ | .lateApplied _ _
  | .lateDropped _ _ | .suppressed | .overflow _ => none

/-- The tag a report carries (Table 10.2). -/
def Report.tag : Report → Option Word16
  | .stepRejected _ tag | .lateApplied tag _ | .lateDropped tag _ => some tag
  | .reset _ | .frameError _ | .noBuffer | .returned _ _ | .unexpectedFrame _ _ _ _ | .commandDropped _ _ _
  | .linkChange _ | .syncChange _ _ | .timeStepped _ _ | .badSchedule _ | .suppressed | .flushed _ _
  | .runChange _ _ _ _ | .overflow _ => none

/-- The detail a report carries, octet 3 first (Table 11.12). -/
def Report.detail : Report → Option Word32
  | .returned dest kind => some (word32 dest kind 0 0)
  | .unexpectedFrame _ dest kind code => some (word32 dest kind code 0)
  | .commandDropped _ code seq => some (word16 0 code ++ seq)
  | .syncChange left entered => some (word32 0 0 (left.code.zeroExtend 8) (entered.code.zeroExtend 8))
  | .timeStepped amount _ => some amount
  | .badSchedule seq => some (0#16 ++ seq)
  | .lateApplied _ lateness | .lateDropped _ lateness => some (BitVec.ofNat 32 lateness)
  | .flushed _ removed => some (BitVec.ofNat 32 removed)
  | .runChange _ left entered removed =>
    some (word16 (left.code.zeroExtend 8) (entered.code.zeroExtend 8) ++ BitVec.ofNat 16 removed)
  | .reset _ | .frameError _ | .noBuffer | .linkChange _ | .stepRejected _ _ | .suppressed | .overflow _ => none

/-- The count a record is appended with: 1, and for OVERFLOW the events lost (R164, R173). -/
def Report.count : Report → Nat
  | .overflow lost => lost
  | _ => 1

/-- The record that appending a report gives (R164, R168 case 2). -/
def Report.toRecord (r : Report) (sequence : Word16) (now : Word32) (timeValid : Bool) : EventRecord :=
  { sequence, kind := r.kind, severity := r.severity, time := now, timeValid, count := r.count, reason := r.reason,
    tag := r.tag, detail := r.detail, fetched := false }

/-- A report matches a record it may coalesce into: same kind, same reason, not fetched (R168 case 1). -/
def Report.matchesRecord (r : Report) (e : EventRecord) : Bool :=
  r.kind.coalesces && !e.fetched && e.kind == r.kind && e.reason == r.reason

/-- The newest held record with one more event counted, stopping at 65,535 (R168 case 1). -/
def raiseNewest : List EventRecord → List EventRecord
  | [] => []
  | [e] => [{ e with count := min (e.count + 1) 65535 }]
  | e :: e' :: es => e :: raiseNewest (e' :: es)

/-- Appending a record at the newest end (R165). -/
def EventList.append (l : EventList) (now : Word32) (timeValid : Bool) (r : Report) : EventList :=
  { l with records := l.records ++ [r.toRecord l.nextSeq now timeValid], nextSeq := l.nextSeq + 1 }

/-- The three cases of R168: coalesce, append, overflow. -/
def EventList.record (l : EventList) (now : Word32) (timeValid : Bool) (r : Report) : EventList :=
  if l.records.getLast?.any r.matchesRecord then { l with records := raiseNewest l.records }
  else if l.records.length < Config.eventLimit then l.append now timeValid r
  else { l with overflow := min (l.overflow + 1) 65535 }

/-- The attention condition: a held, unfetched record of severity at least ATTENTION-LEVEL (R174). -/
def EventList.attention (l : EventList) : Bool :=
  l.records.any fun e => !e.fetched && e.severity.atLeast l.attentionLevel

/-- The oldest records up to a maximum, as EVENT-FETCH reports them (R170). -/
def EventList.fetchable (l : EventList) (max : Nat) : List EventRecord := l.records.take max

/-- The list after a fetch of at most max records: those reported are marked fetched (R170). -/
def EventList.fetch (l : EventList) (max : Nat) : EventList :=
  { l with records := (l.records.take max).map (fun e => { e with fetched := true }) ++ l.records.drop max }

/-- EVENT-ACK accepts a sequence that a held, fetched record carries (R171). -/
def EventList.accepts (l : EventList) (sequence : Word16) : Bool :=
  l.records.any fun e => e.fetched && e.sequence == sequence

/-- How many records an accepted EVENT-ACK removes: the one named and all older ones (R172). -/
def EventList.removedBy (l : EventList) (sequence : Word16) : Nat :=
  l.records.findIdx (fun e => e.sequence == sequence) + 1

/-- The list after an accepted EVENT-ACK: the records removed, then an OVERFLOW record when events were lost
(R172, R173). -/
def EventList.acknowledge (l : EventList) (sequence : Word16) (now : Word32) (timeValid : Bool) : EventList :=
  let l' := { l with records := l.records.drop (l.removedBy sequence) }
  if l'.overflow = 0 then l'
  else { l'.append now timeValid (.overflow l'.overflow) with overflow := 0 }

end Sys2Proof.Machine
end

