-- ==== Sys2Proof/Machine/Output.lean ====
section
/-! DEFINITION. The Output Unit (chapter 7): applying a step (R110 to R113), the expiries of transitions and pulses (R114,
R117), cadences (R119, R120), safe transitions (R123), and the counting of its timers at a tick. -/

namespace Sys2Proof.Machine

/-- The set of one line of a bank. -/
def lineSet (i : Fin 8) : Octet := BitVec.twoPow 8 i.val

/-- A line of a set of lines. -/
def inSet (set : Octet) (i : Fin 8) : Bool := set.getLsbD i.val

/-- A step as the Step Queue hands it over (R94). -/
structure BankStep where
  value : Octet
  mask : Octet
  mode : TransitionMode
  pulse : Option Word16
  deriving DecidableEq, Repr

/-- The breaks of a step: lines of the mask given 0 (R110). -/
def BankStep.breaks (p : BankStep) : Octet := p.mask &&& ~~~p.value

/-- The makes of a step: lines of the mask given 1 whose latch reads 0 (R111). -/
def BankStep.makes (p : BankStep) (latch : Octet) : Octet := p.mask &&& p.value &&& ~~~latch

/-- R110: lines of the mask leave PULSE and CADENCE, breaks go to 0 and leave the make set with their pending pulses. -/
def Bank.breakLines (b : Bank) (p : BankStep) : Bank :=
  { b with
    latch := b.latch &&& ~~~p.breaks
    transition := b.transition.map fun t =>
      { t with
        makeSet := t.makeSet &&& ~~~p.breaks
        pulses := Vector.ofFn fun i => if inSet p.breaks i then none else t.pulses[i] }
    lines := Vector.ofFn fun i => if inSet p.mask i then .static else b.lines[i] }

/-- Lines that take a new value at once enter PULSE when the step carries a width; they revert to the value before (R113). -/
def Bank.startPulses (b : Bank) (p : BankStep) (changed : Octet) (revert : Bool) : Bank :=
  match p.pulse with
  | none => b
  | some w =>
    { b with lines := Vector.ofFn fun i => if inSet changed i then .pulse revert w.toNat p.mode else b.lines[i] }

/-- The pending pulse a step gives to the lines it places in a make set (R113). -/
def BankStep.pendingPulse (p : BankStep) : Option PendingPulse :=
  p.pulse.map fun w => { width := w, mode := p.mode }

/-- R111: placing the makes of a step by Table 7.4, with the pulses of R113. -/
def Bank.placeMakes (b : Bank) (p : BankStep) (makes : Octet) : Bank :=
  match b.transition with
  | some t =>
    { b with
      transition := some { t with
        makeSet := t.makeSet ||| makes
        pulses := Vector.ofFn fun i => if inSet makes i then p.pendingPulse else t.pulses[i] } }
  | none =>
    if p.mode = .breakBeforeMake ∧ b.deadTime ≠ 0 then
      if makes = 0 then b
      else
        { b with
          transition := some {
            makeSet := makes
            timer := b.deadTime.toNat
            pulses := Vector.ofFn fun i => if inSet makes i then p.pendingPulse else none } }
    else ({ b with latch := b.latch ||| makes }).startPulses p makes false

/-- Applying a step to its bank (R110 to R113). -/
def Bank.applyStep (b : Bank) (p : BankStep) : Bank :=
  let fallen := p.breaks &&& b.latch
  let b1 := (b.breakLines p).startPulses p fallen true
  b1.placeMakes p (p.makes b1.latch)

/-- The one-line step that LINE-SET STATIC and the revert of a pulse apply (R117, R121). -/
def oneLineStep (i : Fin 8) (value : Bool) (mode : TransitionMode) : BankStep :=
  { value := if value then lineSet i else 0, mask := lineSet i, mode, pulse := none }

/-- The expiry of a pending transition (R114). -/
def Bank.expireTransition (b : Bank) : Bank :=
  match b.transition with
  | none => b
  | some t =>
    { b with
      latch := b.latch ||| t.makeSet
      transition := none
      lines := Vector.ofFn fun i =>
        if inSet t.makeSet i then
          match t.pulses[i] with
          | some q => .pulse false q.width.toNat q.mode
          | none => b.lines[i]
        else b.lines[i] }

/-- A step that creates a pending transition (Table 7.4, row 3). -/
def Bank.opensTransition (b : Bank) (p : BankStep) : Bool :=
  b.transition == none && p.mode == .breakBeforeMake && b.deadTime != 0 && p.makes b.latch != 0

/-- The lines whose reverts to 1 under PLAIN are outstanding. -/
def Bank.plainReverts (b : Bank) : Octet :=
  (List.finRange 8).foldl (fun set j => if b.lines[j] = .pulse true 0 .plain then set ||| lineSet j else set) 0

/-- The reverts to 1 under PLAIN that are outstanding, as one step: with no transition pending each is set at once, in any
order (R111, R117). -/
def Bank.takePlainReverts (b : Bank) : Bank :=
  b.applyStep { value := b.plainReverts, mask := b.plainReverts, mode := .plain, pulse := none }

/-- The expiry of the pulse of a line: the line reverts by a one-line step (R117). Reverts of one tick have one outcome in
either order (R116), so a revert that creates a transition comes after those to 1 under PLAIN, which would otherwise join it
(DEDUCED, log entry 22). -/
def Bank.expirePulse (b : Bank) (i : Fin 8) : Bank :=
  match b.lines[i] with
  | .pulse revert _ mode =>
    let p := oneLineStep i revert mode
    (if b.opensTransition p then b.takePlainReverts else b).applyStep p
  | .static | .cadence _ _ _ _ => b

/-- The edge that a line's cadence has reached: 1 at phase 0, 0 at the on-time (Table 7.5). -/
def Bank.takeEdge (b : Bank) (i : Fin 8) : Bank :=
  match b.lines[i] with
  | .cadence period onTime phase true =>
    { b with
      latch := if phase = 0 then b.latch ||| lineSet i else b.latch &&& ~~~lineSet i
      lines := b.lines.set i (.cadence period onTime phase false) }
  | .static | .pulse _ _ _ | .cadence _ _ _ false => b

/-- LINE-SET CADENCE (R120): out of the make set, into CADENCE at phase 0, and 1 in the latch at once. -/
def Bank.startCadence (b : Bank) (i : Fin 8) (period onTime : Nat) : Bank :=
  { b with
    latch := b.latch ||| lineSet i
    transition := b.transition.map fun t =>
      { t with makeSet := t.makeSet &&& ~~~lineSet i, pulses := t.pulses.set i none }
    lines := b.lines.set i (.cadence period onTime 0 false) }

/-- The step of a safe transition: all eight lines to the safe pattern, BREAK-BEFORE-MAKE, no pulse (R123 step 3). -/
def Bank.safeStep (b : Bank) : BankStep :=
  { value := b.safePattern, mask := 0xFF#8, mode := .breakBeforeMake, pulse := none }

/-- A safe transition (R123). -/
def Bank.safeTransition (b : Bank) : Bank :=
  ({ b with transition := none, lines := Vector.replicate 8 .static }).applyStep b.safeStep

/-- A line record at a tick: a pulse timer falls, a phase rises and may reach an edge (R117, R119). -/
def LineMode.tick : LineMode → LineMode
  | .static => .static
  | .pulse revert left mode => .pulse revert (left - 1) mode
  | .cadence period onTime phase _ =>
    let phase' := if phase + 1 < period then phase + 1 else 0
    .cadence period onTime phase' (phase' == 0 || phase' == onTime)

/-- A bank at a tick: the dead-time timer falls and the line records count (R114, R117, R119). -/
def Bank.tick (b : Bank) : Bank :=
  { b with
    transition := b.transition.map fun t => { t with timer := t.timer - 1 }
    lines := b.lines.map LineMode.tick }

/-- The expiry of a bank's pending transition is outstanding. -/
def Bank.transitionDue (b : Bank) : Bool := b.transition.any fun t => t.timer == 0

/-- The expiry of a line's pulse is outstanding. -/
def Bank.pulseDue (b : Bank) (i : Fin 8) : Bool :=
  match b.lines[i] with
  | .pulse _ left _ => left == 0
  | .static | .cadence _ _ _ _ => false

/-- The edge of a line's cadence is outstanding. -/
def Bank.edgeDue (b : Bank) (i : Fin 8) : Bool :=
  match b.lines[i] with
  | .cadence _ _ _ due => due
  | .static | .pulse _ _ _ => false

/-- One of the three banks. -/
def OutputUnit.bank (o : OutputUnit) : BankId → Bank
  | .a => o.bankA
  | .b => o.bankB
  | .c => o.bankC

/-- Writing one of the three banks. -/
def OutputUnit.setBank (o : OutputUnit) (id : BankId) (b : Bank) : OutputUnit :=
  match id with
  | .a => { o with bankA := b }
  | .b => { o with bankB := b }
  | .c => { o with bankC := b }

/-- Safe transitions of all three banks (Table 7.6). -/
def OutputUnit.safeAll (o : OutputUnit) : OutputUnit :=
  { bankA := o.bankA.safeTransition, bankB := o.bankB.safeTransition, bankC := o.bankC.safeTransition }

/-- The three banks at a tick. -/
def OutputUnit.tick (o : OutputUnit) : OutputUnit :=
  { bankA := o.bankA.tick, bankB := o.bankB.tick, bankC := o.bankC.tick }

/-- The eight output pins of a bank: the latch, and 0 while RESETn is low (R107, R109). -/
def State.pins (s : State) (id : BankId) : Octet := if s.resetn then (s.out.bank id).latch else 0

end Sys2Proof.Machine
end

