-- ==== Sys2Proof/Machine/Ops.lean ====
section
/-! DEFINITION. The operations that several blocks share: reporting an event, returning a buffer, joining a queue and the
insertion arbiter (chapter 3), flushing the Step Queue (R101), changing the run state (chapter 8), and the resets. -/

namespace Sys2Proof.Machine

/-! ## Reporting (R65, R168) -/

/-- Network time is valid in LOCKED and in HOLDOVER (R65). -/
def Timebase.timeValid (t : Timebase) : Bool := t.sync == .locked || t.sync == .holdover

/-- A block reports an event; the record is stamped with network time as it stands (R63, R65). -/
def State.report (s : State) (r : Report) : State :=
  { s with events := s.events.record s.time.networkTime s.time.timeValid r }

/-! ## Buffers, queues and the arbiter (R18, R19, R34, R39, R40, R42) -/

/-- A buffer is returned and becomes FREE at once (R19). -/
def State.release (s : State) : State := { s with pool.free := s.pool.free + 1 }

/-- The buffer a transmission is from, tagged "from insert" (R39). -/
def TxState.fromInsert : TxState → Nat
  | .sending _ .fromInsert => 1
  | .sending _ .fromRepeat | .bypass | .idleFill => 0

/-- How many buffers are TRANSMITTING (R18). -/
def TxState.transmitting : TxState → Nat
  | .sending _ _ => 1
  | .bypass | .idleFill => 0

/-- The insert side: the Insert Queue and a buffer transmitting from insert (R39). -/
def Transmitter.insertSide (t : Transmitter) : Nat := t.insertQueue.length + t.state.fromInsert

/-- A taken buffer has its CHECK computed when its check-current mark is clear (R42). -/
def Buffer.ready (b : Buffer) : Buffer :=
  if b.checkCurrent then b else { b with check := b.frame.checkOf, checkCurrent := true }

/-- The arbiter takes the head of the Repeat Queue and leaves the credit given (R34, R40). -/
def State.takeRepeat (s : State) (b : Buffer) (rest : List Buffer) (credit : Nat) : State :=
  { s with pool.repeatQueue := rest, tx.state := .sending b.ready .fromRepeat, tx.credit := credit }

/-- The arbiter takes the head of the Insert Queue; the credit is 0 (R39, R40). -/
def State.takeInsert (s : State) (b : Buffer) (rest : List Buffer) : State :=
  { s with tx.insertQueue := rest, tx.state := .sending b.ready .fromInsert, tx.credit := 0 }

/-- The insertion arbiter (Table of R40). -/
def State.arbitrate (s : State) : State :=
  match s.pool.repeatQueue, s.tx.insertQueue with
  | [], [] => { s with tx.state := .idleFill, tx.credit := 0 }
  | r :: rs, [] => s.takeRepeat r rs 0
  | [], i :: is => s.takeInsert i is
  | r :: rs, i :: is => if s.tx.credit < 2 then s.takeRepeat r rs (s.tx.credit + 1) else s.takeInsert i is

/-- A buffer that has joined a queue is taken at once in IDLE-FILL (R37, R39). -/
def State.afterJoin (s : State) : State :=
  match s.tx.state with
  | .idleFill => s.arbitrate
  | .bypass | .sending _ _ => s

/-- A buffer joins the tail of the Repeat Queue (R34). -/
def State.joinRepeat (s : State) (b : Buffer) : State :=
  ({ s with pool.repeatQueue := s.pool.repeatQueue ++ [b] }).afterJoin

/-- A buffer joins the tail of the Insert Queue (R39). -/
def State.joinInsert (s : State) (b : Buffer) : State :=
  ({ s with tx.insertQueue := s.tx.insertQueue ++ [b] }).afterJoin

/-! ## Address Table lookups (R50) -/

/-- The unit address: the address of entry 0 (R47). -/
def AddressTable.unitAddress (t : AddressTable) : Option Octet := t.entries[0].address

/-- The index of the enabled entry that holds an address (R50). -/
def AddressTable.matching (t : AddressTable) (dest : Octet) : Option (Fin 9) :=
  (List.finRange 9).find? fun i => t.entries[i].address == some dest

/-- Writing one entry. -/
def AddressTable.setEntry (t : AddressTable) (i : Fin 9) (e : AddrEntry) : AddressTable :=
  { t with entries := t.entries.set i e }

/-! ## Safe transitions, flushes and run changes (R101, R123, R134, R138) -/

/-- Safe transitions of all three banks (R123). -/
def State.safeTransitions (s : State) : State := { s with out := s.out.safeAll }

/-- Removing n steps is counted as flushed, with a FLUSHED record when n is at least 1 (R97, R99, R101). -/
def State.countFlushed (s : State) (cause : FlushCause) (n : Nat) : State :=
  let s' := { s with steps.counters.flushed := s.steps.counters.flushed + BitVec.ofNat 32 n }
  if n = 0 then s' else s'.report (.flushed cause n)

/-- A whole-queue flush (R101). -/
def State.flushAll (s : State) (cause : FlushCause) : State :=
  ({ s with steps.held := [] }).countFlushed cause s.steps.held.length

/-- The cause of a FAILSAFE entry as its RUN-CHANGE names it (R134). -/
def State.enterFailsafe (s : State) (cause : RunCause) : State :=
  let removed := s.steps.held.length
  ((({ s with run := .failsafe }).safeTransitions).flushAll .failsafe).report (.runChange cause .armed .failsafe removed)

/-- A report of lost time or lost link reaches Run Control: only an ARMED node enters FAILSAFE (R134). -/
def State.loseTrust (s : State) (cause : RunCause) : State :=
  if s.run = .armed then s.enterFailsafe cause else s

/-- DISARM, unit-addressed or broadcast (Table 8.4, R132, R133). -/
def State.disarm (s : State) (cause : RunCause) : State :=
  match s.run with
  | .armed => (({ s with run := .safe }).safeTransitions).report (.runChange cause .armed .safe 0)
  | .failsafe => ({ s with run := .safe }).report (.runChange cause .failsafe .safe 0)
  | .safe => s

/-- The soft reset of Run Control (R138). -/
def State.softReset (s : State) : State :=
  let removed := s.steps.held.length
  let s' := (({ s with run := .safe }).safeTransitions).flushAll .softReset
  match s.run with
  | .armed => s'.report (.runChange .softReset .armed .safe removed)
  | .failsafe => s'.report (.runChange .softReset .failsafe .safe removed)
  | .safe => s'

/-! ## Resets (0.7, R20, R109, R162, R166) -/

/-- Every block at its pin-reset value; what is not the node's (the record of Downstream-Out, the waiting commands) stays,
and so does the strap value kept from the last sampling (R49). -/
def State.allReset (s : State) : State :=
  { State.reset with
    table := .sampled s.table.strapValue
    downstream := s.downstream
    choices := s.choices
    pending := s.pending }

/-- The record of Downstream-Out when RESETn falls: a frame being sent is cut off (R16, R43). -/
def State.cutTransmission (s : State) : State :=
  match s.tx.state with
  | .sending b _ => { s with downstream := s.downstream ++ [.cutFrame b.octets] }
  | .bypass | .idleFill => s

/-- RESETn falls (R109, R16, R20). -/
def State.resetnFalls (s : State) : State := s.cutTransmission.allReset

/-- RESETn rises: from the reset values that every block holds while RESETn is low, the straps are sampled and the RESET
record is appended (R49, R61, R109, R166). -/
def State.resetnRises (s : State) (straps : BitVec 6) : State :=
  ({ s.allReset with resetn := true, table := .sampled straps }).report (.reset .pin)

/-- The start of a full reset: the values of a pin reset, the straps sampled now, the first record's reason COMMAND
(R162, R45). -/
def State.fullReset (s : State) (straps : BitVec 6) : State :=
  ({ s.allReset with resetn := true, table := .sampled straps }).report (.reset .command)

end Sys2Proof.Machine
end

