-- ==== Sys2Proof/Machine/Steps.lean ====
section
/-! DEFINITION. The Step Queue (chapter 6): acceptance (R89 to R92), due expiry (R93), steps of network time (R96, R97),
CANCEL and FLUSH (R98, R99) and schedules (R54, R86, R87). -/

namespace Sys2Proof.Machine

/-- What a step hands to the Output Unit (R94). -/
def Step.toBankStep (st : Step) : BankStep :=
  { value := st.value, mask := st.mask, mode := st.mode, pulse := st.pulse }

/-- A step is handed to the Output Unit and applied to its bank (R94). -/
def State.handOver (s : State) (st : Step) : State :=
  { s with out := s.out.setBank st.bank ((s.out.bank st.bank).applyStep st.toBankStep) }

/-- A step is suppressed (R92, R93, R96). -/
def State.suppress (s : State) : State :=
  ({ s with steps.counters.suppressed := s.steps.counters.suppressed + 1 }).report .suppressed

/-- A late step is applied in ARMED (R92, R96). -/
def State.applyLate (s : State) (st : Step) (lateness : Nat) : State :=
  ({ s.handOver st with steps.counters.lateApplied := s.steps.counters.lateApplied + 1 }).report (.lateApplied st.tag lateness)

/-! ## Acceptance -/

/-- The place of a bank's bit in a bank mask or bank set (Table 11.6). -/
def bankIndex : BankId → Nat
  | .a => 0
  | .b => 1
  | .c => 2

/-- The first acceptance check that fails (Table 6.2), read from the state as it stands (R88). -/
def State.rejection (s : State) (st : Step) : Option Rejection :=
  let now := s.time.networkTime
  if s.run = .failsafe then some .failsafe
  else if !s.time.timeValid then some .noTime
  else if !s.table.entries[st.source].bankMask.getLsbD (bankIndex st.bank) then some .bank
  else if st.mask = 0 then some .mask
  else if isAfter st.due now && decide (s.steps.acceptWindow < distanceAhead st.due now) then some .tooFar
  else if !isAfter st.due now && (st.policy == .drop || decide (s.steps.lateLimit < latenessOf st.due now)) then some .tooLate
  else if Config.stepLimit ≤ s.steps.held.length then some .full
  else none

/-- Insertion behind every held step due at or before the new one (R84). -/
def insertStep (st : Step) : List Step → List Step
  | [] => [st]
  | h :: t => if isAfter h.due st.due then st :: h :: t else h :: insertStep st t

/-- An accepted step: queued when it lies ahead, else a late arrival dealt with at once (R91, R92). -/
def State.acceptStep (s : State) (st : Step) : State :=
  let s' := { s with steps.counters.accepted := s.steps.counters.accepted + 1 }
  if isAfter st.due s.time.networkTime then { s' with steps.held := insertStep st s'.steps.held }
  else if s.run = .armed then s'.applyLate st (latenessOf st.due s.time.networkTime)
  else s'.suppress

/-- A step is offered to acceptance (R89, R90). -/
def State.offerStep (s : State) (st : Step) : State :=
  match s.rejection st with
  | some reason => s.report (.stepRejected reason st.tag)
  | none => s.acceptStep st

/-- A SCHEDULE payload that the sequence check found new: its form, then its records in frame order (R86, R87). -/
def State.offerSchedule (s : State) (source : Fin 9) (seq : Word16) (payload : List Octet) : State :=
  match readSchedule source payload with
  | none => s.report (.badSchedule seq)
  | some sts => sts.foldl State.offerStep s

/-- The schedule sequence check on the entry a SCHEDULE matched, and what follows it (R28, R54). -/
def State.takeSchedule (s : State) (source : Fin 9) (f : Frame) : State :=
  let e := s.table.entries[source]
  if e.lastSeq.all fun l => seqIsNewer f.seq l then
    ({ s with table := s.table.setEntry source { e with lastSeq := some f.seq } }).offerSchedule source f.seq f.payload
  else { s with rx.duplicateSchedules := s.rx.duplicateSchedules + 1 }

/-! ## Due expiry -/

/-- The head step is due (R93). -/
def State.stepDue (s : State) : Bool :=
  match s.steps.held with
  | [] => false
  | st :: _ => !isAfter st.due s.time.networkTime

/-- The due expiry of the head step: it leaves the queue and is applied in ARMED, otherwise suppressed (R93). No effect
while the head step is not due. -/
def State.takeDue (s : State) : State :=
  match s.steps.held with
  | [] => s
  | st :: rest =>
    if isAfter st.due s.time.networkTime then s
    else
      let s' := { s with steps.held := rest }
      if s.run = .armed then { s'.handOver st with steps.counters.applied := s.steps.counters.applied + 1 }
      else s'.suppress

/-! ## Steps of network time -/

/-- A step overtaken by a forward step of network time (Table 6.3). -/
def State.overtake (s : State) (st : Step) : State :=
  let lateness := latenessOf st.due s.time.networkTime
  if st.policy = .apply ∧ lateness ≤ s.steps.lateLimit then
    if s.run = .armed then s.applyLate st lateness else s.suppress
  else
    ({ s with steps.counters.lateDropped := s.steps.counters.lateDropped + 1 }).report (.lateDropped st.tag lateness)

/-- A forward step: the steps at the front that are no longer after network time leave, each handled whole before the next
(R96). -/
def State.forwardStep (s : State) : State :=
  let now := s.time.networkTime
  let overtaken := s.steps.held.takeWhile fun st => !isAfter st.due now
  let kept := s.steps.held.dropWhile fun st => !isAfter st.due now
  overtaken.foldl State.overtake { s with steps.held := kept }

/-- A backward step: steps now further ahead than ACCEPT-WINDOW are removed (R97). -/
def State.backwardStep (s : State) : State :=
  let kept := s.steps.held.filter fun st => distanceAhead st.due s.time.networkTime ≤ s.steps.acceptWindow
  ({ s with steps.held := kept }).countFlushed .time (s.steps.held.length - kept.length)

/-- The Timebase reports a step of network time by a signed amount (R73). -/
def State.queueTimeStep (s : State) (amount : Int) : State :=
  if 0 < amount then s.forwardStep
  else if amount < 0 then s.backwardStep
  else s

/-! ## CANCEL and FLUSH -/

/-- How many held steps satisfy a condition. -/
def State.heldCount (s : State) (p : Step → Bool) : Nat := s.steps.held.countP p

/-- CANCEL removes every held step with the tag (R98). -/
def State.cancelTag (s : State) (tag : Word16) : State :=
  { s with
    steps.held := s.steps.held.filter fun st => st.tag != tag
    steps.counters.cancelled := s.steps.counters.cancelled + BitVec.ofNat 32 (s.heldCount fun st => st.tag == tag) }

/-- A step of a bank in a bank set (R99, Table 11.6). -/
def Step.inBanks (set : Octet) (st : Step) : Bool := set.getLsbD (bankIndex st.bank)

/-- FLUSH removes every held step of the banks named (R99). -/
def State.flushBanks (s : State) (set : Octet) : State :=
  ({ s with steps.held := s.steps.held.filter fun st => !st.inBanks set }).countFlushed .command (s.heldCount (·.inBanks set))

end Sys2Proof.Machine
end

