-- ==== Sys2Proof/Machine/Time.lean ====
section
/-! DEFINITION. The Timebase (chapter 5): the tick (R61 to R64), the taking of a time mark (R66 to R74), and the expiries of
its timers (R75, R76, R78). -/

namespace Sys2Proof.Machine

/-- A timer at a tick: a stopped timer does not run (R62). -/
def tickTimer : Option Nat → Option Nat
  | none => none
  | some n => some (n - 1)

/-- The ticks by which network time advances at a tick event (R63, R64). -/
def Timebase.advance (t : Timebase) : Word32 :=
  if (t.localTicks + 1).toNat % 64 = 0 then (if 0 < t.residue then 2 else if t.residue < 0 then 0 else 1) else 1

/-- The slew residue after a tick event (R64). -/
def Timebase.absorbed (t : Timebase) : Int :=
  if (t.localTicks + 1).toNat % 64 = 0 then
    (if 0 < t.residue then t.residue - 1 else if t.residue < 0 then t.residue + 1 else 0)
  else t.residue

/-- A tick event at the Timebase (R61, R62, R63, R64). -/
def Timebase.tick (t : Timebase) : Timebase :=
  { t with
    localTicks := t.localTicks + 1
    networkTime := t.networkTime + t.advance
    residue := t.absorbed
    markTimer := tickTimer t.markTimer
    holdoverTimer := tickTimer t.holdoverTimer }

/-- The network time a mark calls for (R66). -/
def Timebase.expected (t : Timebase) (markTime : Word32) (hopsTaken : Octet) : Word32 :=
  markTime + BitVec.ofNat 32 (hopsTaken.toNat * t.hopDelay)

/-- A step of network time made within the taking of a mark (R73, R74): the Timebase's fields, its records, then the Step
Queue. The first acquisition from UNSYNCED raises no TIME-STEPPED, and SYNC-CHANGE is raised where the state changes. -/
def State.stepTime (s : State) (expected : Word32) (epoch : Octet) (entered : SyncState) (good : Nat) : State :=
  let t := s.time
  let amount := expected - t.networkTime
  let s1 := { s with time := { t with networkTime := expected, residue := 0, epoch := some epoch, goodMarks := good,
                                      outliers := 0, sync := entered, holdoverTimer := none } }
  let s2 := if t.sync = .unsynced then s1 else s1.report (.timeStepped amount (t.epoch != some epoch))
  let s3 := if t.sync = entered then s2 else s2.report (.syncChange t.sync entered)
  s3.queueTimeStep amount.toInt

/-- A mark agrees without a step: LOCKED with the residue at the offset (R69, R70, R72). -/
def State.lockOn (s : State) (offset : Int) : State :=
  let t := s.time
  let s1 := { s with time := { t with residue := offset, outliers := 0, goodMarks := 3, sync := .locked,
                                      holdoverTimer := none } }
  if t.sync = .locked then s1 else s1.report (.syncChange t.sync .locked)

/-- The rule of the present sync state for a mark (R68 to R72). -/
def State.judgeMark (s : State) (expected : Word32) (epoch : Octet) : State :=
  let t := s.time
  let offset := (expected - t.networkTime).toInt
  match t.sync with
  | .unsynced => s.stepTime expected epoch .acquiring 1
  | .acquiring =>
    if t.epoch = some epoch ∧ offset.natAbs ≤ t.lockWindow then
      if t.goodMarks + 1 < 3 then { s with time.goodMarks := t.goodMarks + 1 } else s.lockOn offset
    else s.stepTime expected epoch .acquiring 1
  | .locked =>
    if t.epoch ≠ some epoch then s.stepTime expected epoch .locked 3
    else if offset.natAbs ≤ t.slewLimit then s.lockOn offset
    else if t.outliers = 0 then { s with time.outliers := 1 }
    else s.stepTime expected epoch .acquiring 1
  | .holdover =>
    if t.epoch = some epoch ∧ offset.natAbs ≤ t.slewLimit then s.lockOn offset
    else s.stepTime expected epoch .acquiring 1

/-- Taking a mark; arming the mark timer is the last act (R66, R75). -/
def State.takeMark (s : State) (markTime : Word32) (epoch hopsTaken : Octet) : State :=
  let s' := s.judgeMark (s.time.expected markTime hopsTaken) epoch
  { s' with time.markTimer := some s'.time.markTimeout }

/-- Reading the payload of a TIME-MARK at offsets 0 to 5 (Table 11.2, R177). -/
def State.takeMarkFrame (s : State) (f : Frame) : State :=
  match f.payload with
  | m3 :: m2 :: m1 :: m0 :: epoch :: hopsTaken :: _ => s.takeMark (word32 m3 m2 m1 m0) epoch hopsTaken
  | _ => s

/-- Entry to UNSYNCED (R78): the Timebase, its record, the flush with cause SYNC, then Run Control. -/
def State.enterUnsynced (s : State) : State :=
  let t := s.time
  let s1 := { s with time := { t with sync := .unsynced, epoch := none, goodMarks := 0, outliers := 0, residue := 0,
                                      markTimer := none, holdoverTimer := none } }
  ((s1.report (.syncChange t.sync .unsynced)).flushAll .sync).loseTrust .sync

/-- Entry to HOLDOVER at the expiry of the mark timer in LOCKED (R75). -/
def State.enterHoldover (s : State) : State :=
  ({ s with time := { s.time with sync := .holdover, outliers := 0, markTimer := none,
                                  holdoverTimer := some s.time.holdoverLimit } }).report (.syncChange .locked .holdover)

/-- The expiry of the mark timer (R75). No effect while the timer has not been brought to 0. In UNSYNCED and HOLDOVER the
mark timer is stopped (R75), so the last two arms only stop it. -/
def State.expireMarkTimer (s : State) : State :=
  if s.time.markTimer = some 0 then
    match s.time.sync with
    | .acquiring => s.enterUnsynced
    | .locked => s.enterHoldover
    | .unsynced | .holdover => { s with time.markTimer := none }
  else s

/-- The expiry of the holdover timer (R76). No effect while the timer has not been brought to 0. -/
def State.expireHoldoverTimer (s : State) : State :=
  if s.time.holdoverTimer = some 0 then
    match s.time.sync with
    | .holdover => s.enterUnsynced
    | .unsynced | .acquiring | .locked => { s with time.holdoverTimer := none }
  else s

end Sys2Proof.Machine
end

