-- ==== Sys2Proof/Machine/CommandUnit.lean ====
section
/-! DEFINITION. The Command Unit (chapter 9): the work of each command on its parameters (R147 to R162, R178), the checks
that decide the result (R144), replies (R41, R145), the Last Command Record (R142, R146) and dropped commands (R143). -/

namespace Sys2Proof.Machine

/-- What executing a command leaves: the state after its effects, the result, the command data, the unit address that takes
effect after the reply is built (R58), and whether the reply is one a full reset waits for (R162). -/
structure Executed where
  state : State
  result : CommandResult
  data : List Octet
  newUnit : Option Octet
  fullReset : Bool
  deriving DecidableEq, Repr

/-- A command carried out: DONE with its data (R144). -/
def Executed.done (s : State) (data : List Octet) : Executed :=
  { state := s, result := .done, data, newUnit := none, fullReset := false }

/-- A command refused by a check: it changes nothing (R144). -/
def Executed.refused (s : State) (result : CommandResult) : Executed :=
  { state := s, result, data := [], newUnit := none, fullReset := false }

/-- The state octet of a reply built now (R145, Table 11.9). -/
def State.stateOctet (s : State) : Octet :=
  Sys2Proof.Machine.stateOctet s.run s.time.sync s.link.link s.events.attention

/-! ## IDENT, STATUS -/

/-- IDENT (R147). -/
def runIdent (s : State) : List Octet → Executed
  | [] => .done s (octets16 Config.partNumber
      ++ [Config.revision, s.table.strapValue.zeroExtend 8, (s.table.unitAddress).getD 0])
  | _ :: _ => .refused s .badFormat

/-- A bank as STATUS page 0 reports it (R127, 11.4). -/
def Bank.statusOctets (b : Bank) : List Octet :=
  match b.transition with
  | none => [b.latch, 0, 0]
  | some t => [b.latch, 1, t.makeSet]

/-- STATUS page 0. The command's own buffer counts in the Insert Queue and on the insert side (R148). -/
def State.statusPage0 (s : State) : List Octet :=
  [s.stateOctet, s.link.rx.code, s.time.epoch.getD 0, if s.time.epoch.isSome then 1 else 0]
    ++ octets32 s.time.networkTime ++ octets32 s.time.localTicks ++ octets32 (BitVec.ofInt 32 s.time.residue)
    ++ [octetOf s.time.goodMarks, octetOf s.time.outliers, octetOf s.steps.held.length]
    ++ s.out.bankA.statusOctets ++ s.out.bankB.statusOctets ++ s.out.bankC.statusOctets
    ++ [octetOf s.pool.free, octetOf s.pool.repeatQueue.length, octetOf (s.tx.insertQueue.length + 1),
        octetOf (s.tx.insertSide + 1), octetOf s.events.records.length]
    ++ octets16 (BitVec.ofNat 16 s.events.overflow)

/-- STATUS page 1: the receive-side counters and frames inserted and sent (R36, R46, 11.4). -/
def State.statusPage1 (s : State) : List Octet :=
  octets32 s.rx.framesGood ++ octets32 s.rx.framesRepeated ++ octets32 s.rx.framesConsumed ++ octets32 s.rx.frameErrors
    ++ octets32 s.rx.noBufferDrops ++ octets32 s.rx.returned ++ octets32 s.rx.expired ++ octets32 s.rx.filtered
    ++ octets32 s.rx.duplicateSchedules ++ octets32 s.tx.framesSent

/-- STATUS page 2: the step counters (R104, 11.4). -/
def State.statusPage2 (s : State) : List Octet :=
  octets32 s.steps.counters.accepted ++ octets32 s.steps.counters.applied ++ octets32 s.steps.counters.lateApplied
    ++ octets32 s.steps.counters.lateDropped ++ octets32 s.steps.counters.suppressed
    ++ octets32 s.steps.counters.cancelled ++ octets32 s.steps.counters.flushed

/-- STATUS (R148). -/
def runStatus (s : State) : List Octet → Executed
  | [page] =>
    if page = 0 then .done s (page :: s.statusPage0)
    else if page = 1 then .done s (page :: s.statusPage1)
    else if page = 2 then .done s (page :: s.statusPage2)
    else .refused s .badValue
  | [] | _ :: _ :: _ => .refused s .badFormat

/-! ## ADDR-GET, ADDR-SET -/

/-- An index 0..8 of the Address Table. -/
def entryIndex (index : Octet) : Option (Fin 9) :=
  if h : index.toNat < 9 then some ⟨index.toNat, h⟩ else none

/-- An entry as a reply gives it (R149, Table 11.10). -/
def AddrEntry.replyOctets (index : Octet) (e : AddrEntry) : List Octet :=
  [index, e.address.getD 0, e.flags] ++ octets16 (e.lastSeq.getD 0)

/-- ADDR-GET (R60, R149). -/
def runAddrGet (s : State) : List Octet → Executed
  | [index] =>
    match entryIndex index with
    | some i => .done s (s.table.entries[i].replyOctets index)
    | none => .refused s .badValue
  | [] | _ :: _ :: _ => .refused s .badFormat

/-- The checks of ADDR-SET on its values, for an index 0..8 (R55 checks 2 to 4, R178). -/
def addrSetValid (i : Fin 9) (address entryFlags : Octet) : Bool :=
  let enabled := entryFlags.getLsbD 7
  !entryFlags.getLsbD 3 && !entryFlags.getLsbD 6
    && !(i == 0 && !enabled)
    && !(i != 8 && enabled && (address == 0 || address == 255))
    && !(i == 8 && enabled && address != 255)

/-- Another enabled entry holds the address (R56). -/
def AddressTable.heldElsewhere (t : AddressTable) (i : Fin 9) (address : Octet) : Bool :=
  (List.finRange 9).any fun j => j != i && t.entries[j].address == some address

/-- The entry that an ADDR-SET writes over an old one (R53, R57). -/
def AddrEntry.written (old : AddrEntry) (address entryFlags : Octet) : AddrEntry :=
  let new := if entryFlags.getLsbD 7 then some address else none
  { address := new, bankMask := entryFlags.extractLsb' 0 3, acceptMark := entryFlags.getLsbD 4,
    acceptSchedule := entryFlags.getLsbD 5, lastSeq := if new = old.address then old.lastSeq else none }

/-- ADDR-SET (R55 to R58, R150). Entry 0 keeps its address until the reply has been built. -/
def runAddrSet (s : State) : List Octet → Executed
  | [index, address, entryFlags] =>
    match entryIndex index with
    | none => .refused s .badValue
    | some i =>
      let old := s.table.entries[i]
      if !addrSetValid i address entryFlags then
        { Executed.refused s .badValue with data := old.replyOctets index }
      else if entryFlags.getLsbD 7 && s.table.heldElsewhere i address then
        { Executed.refused s .inUse with data := old.replyOctets index }
      else
        let new := old.written address entryFlags
        if i = 0 then
          { Executed.done { s with table := s.table.setEntry 0 { new with address := old.address } } (new.replyOctets index)
            with newUnit := new.address }
        else .done { s with table := s.table.setEntry i new } (new.replyOctets index)
  | [] | [_] | [_, _] | _ :: _ :: _ :: _ :: _ => .refused s .badFormat

/-! ## CONFIG-GET, CONFIG-SET -/

/-- The value a parameter holds (R151). -/
def State.paramValue (s : State) : Param → Word32
  | .acceptWindow => BitVec.ofNat 32 s.steps.acceptWindow
  | .lateLimit => BitVec.ofNat 32 s.steps.lateLimit
  | .deadTime id => (s.out.bank id).deadTime.zeroExtend 32
  | .safePattern id => (s.out.bank id).safePattern.zeroExtend 32
  | .lockWindow => BitVec.ofNat 32 s.time.lockWindow
  | .slewLimit => BitVec.ofNat 32 s.time.slewLimit
  | .markTimeout => BitVec.ofNat 32 s.time.markTimeout
  | .holdoverLimit => BitVec.ofNat 32 s.time.holdoverLimit
  | .hopDelay => BitVec.ofNat 32 s.time.hopDelay
  | .linkTimeout => BitVec.ofNat 32 s.link.linkTimeout
  | .attentionLevel => s.events.attentionLevel.code.zeroExtend 32

/-- A running timer is re-armed at the new length; a stopped one stays stopped (R5, R80). -/
def rearm (timer : Option Nat) (length : Nat) : Option Nat := timer.map fun _ => length

/-- A safe pattern is written: kept in ARMED, with a safe transition of the bank at once otherwise (R126). -/
def State.writeSafePattern (s : State) (id : BankId) (pattern : Octet) : State :=
  let b := { s.out.bank id with safePattern := pattern }
  { s with out := s.out.setBank id (if s.run = .armed then b else b.safeTransition) }

/-- Storing a parameter, and what its owner does at once (R152, Table 9.7, R5, R80, R126, R175). -/
def State.writeParam (s : State) (p : Param) (value : Word32) : State :=
  match p with
  | .acceptWindow => { s with steps.acceptWindow := value.toNat }
  | .lateLimit => { s with steps.lateLimit := value.toNat }
  | .deadTime id => { s with out := s.out.setBank id { s.out.bank id with deadTime := value.setWidth 8 } }
  | .safePattern id => s.writeSafePattern id (value.setWidth 8)
  | .lockWindow => { s with time.lockWindow := value.toNat }
  | .slewLimit => { s with time.slewLimit := value.toNat }
  | .markTimeout =>
    { s with time.markTimeout := value.toNat, time.markTimer := rearm s.time.markTimer value.toNat }
  | .holdoverLimit =>
    { s with time.holdoverLimit := value.toNat, time.holdoverTimer := rearm s.time.holdoverTimer value.toNat }
  | .hopDelay => { s with time.hopDelay := value.toNat }
  | .linkTimeout =>
    { s with link.linkTimeout := value.toNat, link.linkTimer := rearm s.link.linkTimer value.toNat }
  | .attentionLevel => { s with events.attentionLevel := severityOf value }

/-- CONFIG-GET (R151). -/
def runConfigGet (s : State) : List Octet → Executed
  | [number] =>
    match paramOf number with
    | some p => .done s (number :: octets32 (s.paramValue p))
    | none => .refused s .badValue
  | [] | _ :: _ :: _ => .refused s .badFormat

/-- CONFIG-SET (R152). -/
def runConfigSet (s : State) : List Octet → Executed
  | [number, v3, v2, v1, v0] =>
    let value := word32 v3 v2 v1 v0
    match paramOf number with
    | none => .refused s .badValue
    | some p =>
      if p.admits value then
        let s' := s.writeParam p value
        .done s' (number :: octets32 (s'.paramValue p))
      else .refused s .badValue
  | [] | [_] | [_, _] | [_, _, _] | [_, _, _, _] | _ :: _ :: _ :: _ :: _ :: _ :: _ => .refused s .badFormat

/-! ## ARM, DISARM, LINE-SET -/

/-- ARM (Table 8.2, R129, R130). -/
def runArm (s : State) : List Octet → Executed
  | [] =>
    if s.run = .armed then .done s []
    else if s.time.sync = .locked ∧ s.link.link = .up then
      .done (({ s with run := .armed }).report (.runChange .arm s.run .armed 0)) []
    else .refused s .wrongState
  | _ :: _ => .refused s .badFormat

/-- DISARM (R132, R154). -/
def runDisarm (s : State) : List Octet → Executed
  | [] => .done (s.disarm .disarm) []
  | _ :: _ => .refused s .badFormat

/-- The bank and the line of the bank that a line number 0..23 names (0.4, R83). -/
def lineOf (line : Octet) : Option (BankId × Fin 8) :=
  let i : Fin 8 := ⟨line.toNat % 8, Nat.mod_lt _ (by decide)⟩
  match line.toNat / 8 with
  | 0 => some (.a, i)
  | 1 => some (.b, i)
  | 2 => some (.c, i)
  | _ => none

/-- A bank is changed by a LINE-SET that passed its value checks; WRONG-STATE outside ARMED (R122 check 2, R155). -/
def lineSetBank (s : State) (id : BankId) (f : Bank → Bank) : Executed :=
  if s.run = .armed then
    let b := f (s.out.bank id)
    .done { s with out := s.out.setBank id b } [(bankCode id).zeroExtend 8, b.latch]
  else .refused s .wrongState

/-- LINE-SET (R120 to R122, R155, R178): mode 0 is STATIC, mode 1 CADENCE. -/
def runLineSet (s : State) : List Octet → Executed
  | [line, mode, p1, p0, q1, q0] =>
    let p := word16 p1 p0
    let q := word16 q1 q0
    if mode = 0 then
      match lineOf line with
      | none => .refused s .badValue
      | some (id, i) =>
        if p = 0 ∨ p = 1 then lineSetBank s id fun b => b.applyStep (oneLineStep i (p == 1) .plain)
        else .refused s .badValue
    else if mode = 1 then
      match lineOf line with
      | none => .refused s .badValue
      | some (id, i) =>
        if 2 ≤ p.toNat ∧ 1 ≤ q.toNat ∧ q.toNat < p.toNat then
          lineSetBank s id fun b => b.startCadence i p.toNat q.toNat
        else .refused s .badValue
    else .refused s .badValue
  | [] | [_] | [_, _] | [_, _, _] | [_, _, _, _] | [_, _, _, _, _] | _ :: _ :: _ :: _ :: _ :: _ :: _ :: _ =>
    .refused s .badFormat

/-! ## CANCEL, FLUSH, QUEUE-PEEK -/

/-- CANCEL (R98, R156). -/
def runCancel (s : State) : List Octet → Executed
  | [t1, t0] =>
    .done (s.cancelTag (word16 t1 t0)) [octetOf (s.heldCount fun st => st.tag == word16 t1 t0)]
  | [] | [_] | _ :: _ :: _ :: _ => .refused s .badFormat

/-- FLUSH (R99, R157, R178). -/
def runFlush (s : State) : List Octet → Executed
  | [set] =>
    if set &&& 0xF8#8 = 0 then .done (s.flushBanks set) [octetOf (s.heldCount (·.inBanks set))]
    else .refused s .badValue
  | [] | _ :: _ :: _ => .refused s .badFormat

/-- The held steps at count positions from start, each as QUEUE-PEEK reports it (R103). -/
def peekOctets (held : List Step) (start count : Nat) : List Octet :=
  (((held.drop start).take count).zipIdx start).flatMap fun (st, position) => st.octets position

/-- QUEUE-PEEK (R103, R158). -/
def runQueuePeek (s : State) : List Octet → Executed
  | [start, count] =>
    if start.toNat ≤ 63 ∧ 1 ≤ count.toNat ∧ count.toNat ≤ 6 then
      .done s ([octetOf s.steps.held.length, octetOf ((s.steps.held.drop start.toNat).take count.toNat).length]
        ++ peekOctets s.steps.held start.toNat count.toNat)
    else .refused s .badValue
  | [] | [_] | _ :: _ :: _ :: _ => .refused s .badFormat

/-! ## EVENT-FETCH, EVENT-ACK -/

/-- EVENT-FETCH (R159, R170). -/
def runEventFetch (s : State) : List Octet → Executed
  | [max] =>
    if 1 ≤ max.toNat ∧ max.toNat ≤ 4 then
      let reported := s.events.fetchable max.toNat
      .done { s with events := s.events.fetch max.toNat }
        (octets16 (BitVec.ofNat 16 s.events.overflow) ++ [octetOf reported.length] ++ reported.flatMap EventRecord.octets)
    else .refused s .badValue
  | [] | _ :: _ :: _ => .refused s .badFormat

/-- EVENT-ACK (R160, R171 to R173). -/
def runEventAck (s : State) : List Octet → Executed
  | [s1, s0] =>
    let sequence := word16 s1 s0
    if s.events.accepts sequence then
      .done { s with events := s.events.acknowledge sequence s.time.networkTime s.time.timeValid }
        [octetOf (s.events.removedBy sequence)]
    else .refused s .notHeld
  | [] | [_] | _ :: _ :: _ :: _ => .refused s .badFormat

/-! ## RESET SOFT, RESET FULL -/

/-- RESET SOFT (R138, R161). -/
def runResetSoft (s : State) : List Octet → Executed
  | [] => .done s.softReset []
  | _ :: _ => .refused s .badFormat

/-- RESET FULL: its reply is the one the full reset waits for (R162). -/
def runResetFull (s : State) : List Octet → Executed
  | [] => { Executed.done s [] with fullReset := true }
  | _ :: _ => .refused s .badFormat

/-! ## Checking, replying, recording -/

/-- A known command on its parameters (R144 checks 2 and 3). -/
def runCommand (c : CommandCode) (s : State) (params : List Octet) : Executed :=
  match c with
  | .ident => runIdent s params
  | .status => runStatus s params
  | .addrGet => runAddrGet s params
  | .addrSet => runAddrSet s params
  | .configGet => runConfigGet s params
  | .configSet => runConfigSet s params
  | .arm => runArm s params
  | .disarm => runDisarm s params
  | .lineSet => runLineSet s params
  | .cancel => runCancel s params
  | .flush => runFlush s params
  | .queuePeek => runQueuePeek s params
  | .eventFetch => runEventFetch s params
  | .eventAck => runEventAck s params
  | .resetSoft => runResetSoft s params
  | .resetFull => runResetFull s params

/-- Checking and carrying out the payload of a command (R144, R178). -/
def executePayload (s : State) : List Octet → Executed
  | [] => .refused s .badFormat
  | code :: params =>
    match commandOf code with
    | none => .refused s .unknown
    | some c => runCommand c s params

/-- The reply payload, read after the command's own effects (R145, Table 11.8). -/
def Executed.reply (e : Executed) (code : Octet) : List Octet :=
  [code, e.result.code, e.state.stateOctet, octetOf e.state.events.records.length] ++ e.data

/-- The reply frame to a command (R41). -/
def Frame.replyTo (f : Frame) (payload : List Octet) : Frame :=
  { dest := f.src, src := f.dest, kind := kindReply, hops := 255, seq := f.seq, payload }

/-- A reply written over its command: the check-current mark is cleared (R42, R145). -/
def Buffer.replyBuffer (b : Buffer) (payload : List Octet) (resetReply : Bool) : Buffer :=
  { frame := b.frame.replyTo payload, check := b.check, checkCurrent := false, resetReply }

/-- A dropped command: its buffer is returned and COMMAND-DROPPED reported (R143). -/
def State.dropCommand (s : State) (f : Frame) (reason : DropReason) : State :=
  s.release.report (.commandDropped reason f.codeOctet f.seq)

/-- The new unit address takes effect after the reply has been built (R58). -/
def State.applyUnit (s : State) : Option Octet → State
  | none => s
  | some a => { s with table := s.table.setEntry 0 { s.table.entries[0] with address := some a } }

/-- Case 4 of R141: executed, answered, recorded (R145, R146), with RESET FULL's pending mark (R162). -/
def State.executeCommand (s : State) (b : Buffer) : State :=
  let f := b.frame
  let e := executePayload s f.payload
  let payload := e.reply f.codeOctet
  let s1 := { e.state with
    cmd := { last := some { src := f.src, seq := f.seq, payload }, resetPending := e.state.cmd.resetPending || e.fullReset } }
  (s1.joinInsert (b.replyBuffer payload e.fullReset)).applyUnit e.newUnit

/-- The Last Command Record holds a frame's SRC and SEQ (R142). -/
def LastCommand.isOf (l : LastCommand) (f : Frame) : Bool := l.src == f.src && l.seq == f.seq

/-- The reply payload recorded for a duplicate, when the frame is one (R141 case 2). -/
def CommandUnit.duplicate (c : CommandUnit) (f : Frame) : Option (List Octet) :=
  match c.last with
  | some l => if l.isOf f then some l.payload else none
  | none => none

/-- Taking a unit-addressed COMMAND in its buffer (R141, R142). -/
def State.takeCommand (s : State) (b : Buffer) : State :=
  if s.cmd.resetPending then s.dropCommand b.frame .resetPending
  else
    match s.cmd.duplicate b.frame with
    | some payload =>
      if s.tx.insertSide < Config.insertLimit then s.joinInsert (b.replyBuffer payload false)
      else s.dropCommand b.frame .insertFull
    | none =>
      if s.tx.insertSide < Config.insertLimit then s.executeCommand b
      else s.dropCommand b.frame .insertFull

end Sys2Proof.Machine
end

