-- ==== Sys2Proof/Machine/Classify.lean ====
section
/-! DEFINITION. The Frame Classifier (2.2 to 2.4): stripping, repeating, consuming and discarding a good frame. While it is
classified a buffer is in no holder; each path returns it, queues it for repetition, or hands it to the Command Unit. -/

namespace Sys2Proof.Machine

/-- One more than a time-mark field, stopping at 255 (R32). -/
def raiseField (o : Octet) : Octet := if o = 255 then 255 else o + 1

/-- The payload of a repeated TIME-MARK: HOPS TAKEN raised, ATTENTION raised when the condition holds (R32). -/
def rewrittenMark (attention : Bool) : List Octet → List Octet
  | m3 :: m2 :: m1 :: m0 :: epoch :: hopsTaken :: att :: rest =>
    m3 :: m2 :: m1 :: m0 :: epoch :: raiseField hopsTaken :: (if attention then raiseField att else att) :: rest
  | short => short

/-- The frame a node sends on (R31, R32). -/
def Frame.repeated (f : Frame) (attention : Bool) : Frame :=
  { f with
    hops := f.hops - 1
    payload := if f.kindOf = .timeMark then rewrittenMark attention f.payload else f.payload }

/-- The buffer that joins the Repeat Queue: rewritten, CHECK recomputed, check current (R31, R42). -/
def Buffer.repeated (b : Buffer) (attention : Bool) : Buffer :=
  let f := b.frame.repeated attention
  { b with frame := f, check := f.checkOf, checkCurrent := true }

/-- Repetition under the hop budget (R30, R31, R34). -/
def State.repeatFrame (s : State) (b : Buffer) : State :=
  if b.frame.hops = 0 then ({ s with rx.expired := s.rx.expired + 1 }).release
  else ({ s with rx.framesRepeated := s.rx.framesRepeated + 1 }).joinRepeat (b.repeated s.events.attention)

/-- The node's own frame come back (R22). -/
def State.strip (s : State) (f : Frame) : State :=
  ({ s with rx.returned := s.rx.returned + 1 }).release.report (.returned f.dest f.kind)

/-- The command code an UNEXPECTED-FRAME gives: for a COMMAND, its code; otherwise 00H (R29, Table 11.12). -/
def Frame.unexpectedCode (f : Frame) : Octet := if f.kindOf = .command then f.codeOctet else 0

/-- An UNEXPECTED-FRAME report (R29). -/
def State.reportUnexpected (s : State) (cls : EntryClass) (f : Frame) : State :=
  s.report (.unexpectedFrame cls f.dest f.kind f.unexpectedCode)

/-- A frame is counted as consumed before its contents are handed over (R28, R35, R36). -/
def State.countConsumed (s : State) : State := { s with rx.framesConsumed := s.rx.framesConsumed + 1 }

/-- A frame filtered by its entry's accept flags (R51). -/
def State.countFiltered (s : State) : State := { s with rx.filtered := s.rx.filtered + 1 }

/-- A TIME-MARK that matched an entry: consumed or filtered (R24 to R26, R51). -/
def State.offerMark (s : State) (e : AddrEntry) (f : Frame) : State :=
  if e.acceptMark then s.countConsumed.takeMarkFrame f else s.countFiltered

/-- A SCHEDULE that matched an entry: consumed or filtered (R24 to R26, R51). -/
def State.offerScheduleFrame (s : State) (i : Fin 9) (f : Frame) : State :=
  if s.table.entries[i].acceptSchedule then s.countConsumed.takeSchedule i f else s.countFiltered

/-- Case 4 of R21: entry 0 matches (R24, R25). -/
def State.classifyUnit (s : State) (b : Buffer) : State :=
  match b.frame.kindOf with
  | .timeMark => (s.offerMark s.table.entries[0] b.frame).release
  | .schedule => (s.offerScheduleFrame 0 b.frame).release
  | .command => s.countConsumed.takeCommand b
  | .reply | .unknown => s.release.reportUnexpected .unit b.frame

/-- A COMMAND through a group or the broadcast entry: only a broadcast DISARM is executed (R27, R133). -/
def State.offerManyCommand (s : State) (i : Fin 9) (f : Frame) : State :=
  if i = 8 then
    if f.payload = [CommandCode.disarm.octet] then s.countConsumed.disarm .broadcastDisarm
    else s.reportUnexpected .broadcast f
  else s.reportUnexpected .group f

/-- Case 5 of R21: a group entry or the broadcast entry matches; the hand-over comes first, then the repetition
(R26, R27, R33). -/
def State.classifyMany (s : State) (i : Fin 9) (b : Buffer) : State :=
  match b.frame.kindOf with
  | .timeMark => (s.offerMark s.table.entries[i] b.frame).repeatFrame b
  | .schedule => (s.offerScheduleFrame i b.frame).repeatFrame b
  | .command => (s.offerManyCommand i b.frame).repeatFrame b
  | .reply | .unknown => s.repeatFrame b

/-- Classification, the first case that fits (R21 to R28). -/
def State.classify (s : State) (b : Buffer) : State :=
  if s.table.unitAddress = some b.frame.src then s.strip b.frame
  else if b.frame.dest = 0 then s.repeatFrame b
  else
    match s.table.matching b.frame.dest with
    | none => s.repeatFrame b
    | some i => if i = 0 then s.classifyUnit b else s.classifyMany i b

end Sys2Proof.Machine
end

