-- ==== Sys2Proof/Machine/Link.lean ====
section
/-! DEFINITION. The Link Receiver (chapter 1): symbols, synchronisation, link state, frame assembly, BYPASS; and the arrival
of a whole frame as its symbols. -/

namespace Sys2Proof.Machine

/-! ## BYPASS (R16, R17) -/

/-- The transmitter is in BYPASS. -/
def State.inBypass (s : State) : Bool :=
  match s.tx.state with
  | .bypass => true
  | .idleFill | .sending _ _ => false

/-- Upstream is not inside a frame (R17). -/
def LinkReceiver.outsideFrame (l : LinkReceiver) : Bool :=
  match l.rx with
  | .noSignal | .hunting => true
  | .inSync => !l.bracketOpen

/-- The node may leave BYPASS now (R17). -/
def State.mayLeaveBypass (s : State) : Bool :=
  s.resetn && s.inBypass && s.tx.startUpDone && s.link.outsideFrame

/-- Leaving BYPASS: IDLE-FILL with the gap count at 0, the receiver carried over (R17, R37, R38). No effect while the node
may not leave it. -/
def State.leaveBypass (s : State) : State :=
  if s.mayLeaveBypass then { s with tx.state := .idleFill, tx.gap := 0 } else s

/-- In BYPASS a received symbol is sent on (R16). -/
def State.mirror (s : State) (sym : Symbol) : State :=
  if s.inBypass then { s with downstream := s.downstream ++ [.symbol sym] } else s

/-! ## Synchronisation and link state (R2 to R6) -/

/-- Entry to IN-SYNC and its report to the link state (R3, R5, R6). -/
def State.enterInSync (s : State) : State :=
  let l := { s.link with rx := .inSync, idleRun := Config.syncRun, errorRun := 0, validRun := 0, assembly := .outside,
                         linkTimer := none }
  match s.link.link with
  | .up => { s with link := l }
  | .down => ({ s with link := { l with link := .up } }).report (.linkChange .up)

/-- The link timer when the receiver leaves IN-SYNC: started while the link is UP (R5). -/
def LinkReceiver.timerAfterLoss (l : LinkReceiver) : Option Nat :=
  match l.link with
  | .up => some l.linkTimeout
  | .down => l.linkTimer

/-- A receive error: counted and reported (R13). The buffer's return is the caller's. -/
def State.frameError (s : State) (reason : FrameFault) : State :=
  ({ s with rx.frameErrors := s.rx.frameErrors + 1 }).report (.frameError reason)

/-- A symbol taken in HUNTING (R3). -/
def State.hunt (s : State) (sym : Symbol) : State :=
  if sym = .idle then
    if s.link.idleRun + 1 < Config.syncRun then { s with link.idleRun := s.link.idleRun + 1 } else s.enterInSync
  else { s with link.idleRun := 0 }

/-- A valid symbol in IN-SYNC: the valid run, and the error run at a valid run of 16 (R4). -/
def State.countValid (s : State) : State :=
  let v := min (s.link.validRun + 1) Config.syncRun
  { s with link.validRun := v, link.errorRun := if v = Config.syncRun then 0 else s.link.errorRun }

/-- The frame bracket in IN-SYNC (R16). -/
def State.trackBracket (s : State) (sym : Symbol) : State :=
  match sym with
  | .openSymbol => { s with link.bracketOpen := true }
  | .closeSymbol | .abort => { s with link.bracketOpen := false }
  | .data _ | .idle | .invalid => s

/-! ## Frame assembly (R10 to R15) -/

/-- A frame being assembled ends with an error: its buffer is returned and assembly goes on as given (R13). -/
def State.dropAssembly (s : State) (reason : FrameFault) (next : Assembly) : State :=
  ({ s with link.assembly := next }).release.frameError reason

/-- A claim at OPEN (R10, R19). -/
def State.claim (s : State) : State :=
  if 0 < s.pool.free then { s with pool.free := s.pool.free - 1, link.assembly := .assembling [] }
  else ({ s with rx.noBufferDrops := s.rx.noBufferDrops + 1, link.assembly := .skipping }).report .noBuffer

/-- The end of a frame at CLOSE: its checks, and the classification of a good frame (R12, R35). -/
def State.endFrame (s : State) (octets : List Octet) : State :=
  if !lengthGood octets then s.dropAssembly .length .outside
  else if !checkGood octets then s.dropAssembly .check .outside
  else
    match bufferOf octets with
    | none => s.dropAssembly .length .outside
    | some b => ({ s with link.assembly := .outside, rx.framesGood := s.rx.framesGood + 1 }).classify b

/-- A symbol at frame assembly, in IN-SYNC and outside BYPASS (R10, R11, R12, R14, R15). -/
def State.assemble (s : State) (sym : Symbol) : State :=
  match sym, s.link.assembly with
  | .openSymbol, .assembling _ => ({ s with link.assembly := .assembling [] }).frameError .framing
  | .openSymbol, .outside => s.claim
  | .openSymbol, .skipping => s.claim
  | .data o, .assembling octets =>
    if octets.length < Config.bufferOctets then { s with link.assembly := .assembling (octets ++ [o]) }
    else s.dropAssembly .oversize .skipping
  | .closeSymbol, .assembling octets => s.endFrame octets
  | .closeSymbol, .skipping => { s with link.assembly := .outside }
  | .abort, .assembling _ => s.dropAssembly .abort .outside
  | .abort, .skipping => { s with link.assembly := .outside }
  | .invalid, .assembling _ => s.dropAssembly .code .skipping
  | .data _, .outside | .data _, .skipping | .closeSymbol, .outside | .abort, .outside => s
  | .invalid, .outside | .invalid, .skipping | .idle, _ => s

/-- Frame assembly runs outside BYPASS only (R16). -/
def State.assembleUnlessBypass (s : State) (sym : Symbol) : State :=
  if s.inBypass then s else s.assemble sym

/-- An invalid symbol in IN-SYNC: the error run, and at 4 the departure to HUNTING (R4, R5). -/
def State.countInvalid (s : State) : State :=
  if s.link.errorRun + 1 < Config.errorLimit then
    { s with link.errorRun := s.link.errorRun + 1, link.validRun := 0 }
  else
    { s with link.rx := .hunting, link.idleRun := 0, link.validRun := 0, link.assembly := .outside,
             link.bracketOpen := false, link.linkTimer := s.link.timerAfterLoss }

/-- A symbol taken in IN-SYNC (R4, R10 to R16). An invalid symbol damages the frame first (R15). -/
def State.inSyncSymbol (s : State) (sym : Symbol) : State :=
  if sym = .invalid then (s.assembleUnlessBypass sym).countInvalid
  else ((s.countValid).trackBracket sym).assembleUnlessBypass sym

/-- A symbol at the receiver (R2, R3, R4): the first symbol leaves NO-SIGNAL and is taken in HUNTING. -/
def State.receiverTakes (s : State) (sym : Symbol) : State :=
  match s.link.rx with
  | .noSignal => ({ s with link.rx := .hunting, link.idleRun := 0 }).hunt sym
  | .hunting => s.hunt sym
  | .inSync => s.inSyncSymbol sym

/-- A symbol has arrived: no tick since then has been without one (R2). -/
def State.heard (s : State) : State := { s with link.silence := 0 }

/-- A symbol received on Upstream-In. While RESETn is low it is only mirrored (R2, R16). A node that may leave BYPASS has
left it before the symbol is taken ("as soon as", R17; log entry 7). -/
def State.receive (s : State) (sym : Symbol) : State :=
  if s.resetn then ((s.leaveBypass.heard).mirror sym).receiverTakes sym
  else s.mirror sym

/-- A loss of activity is outstanding: HUNTING or IN-SYNC, and no symbol for 2 consecutive ticks (R2). In NO-SIGNAL the
receiver stays; while RESETn is low it does not respond. -/
def State.silenceDue (s : State) : Bool :=
  s.resetn && s.link.rx != .noSignal && decide (Config.silentTicks ≤ s.link.silence)

/-- Loss of activity (R2, R5, R15, R16). No effect while it is not outstanding. -/
def State.loseActivity (s : State) : State :=
  let s1 :=
    match s.link.assembly with
    | .assembling _ => s.dropAssembly .link .outside
    | .outside | .skipping => s
  let cleared (l : LinkReceiver) : LinkReceiver :=
    { l with rx := .noSignal, idleRun := 0, errorRun := 0, validRun := 0, assembly := .outside, bracketOpen := false }
  if s.silenceDue then
    match s.link.rx with
    | .noSignal => s
    | .hunting => { s with link := cleared s.link }
    | .inSync => { s1 with link := { cleared s1.link with linkTimer := s1.link.timerAfterLoss } }
  else s

/-- The Link Receiver at a tick: the link timer falls, and one more tick has been without a symbol (R2, R5). -/
def LinkReceiver.tick (l : LinkReceiver) : LinkReceiver :=
  { l with linkTimer := tickTimer l.linkTimer, silence := min (l.silence + 1) Config.silentTicks }

/-- The expiry of the link timer: the link goes DOWN, and an ARMED node enters FAILSAFE (R5, R6, R134). No effect while the
timer has not been brought to 0. -/
def State.expireLinkTimer (s : State) : State :=
  if s.link.linkTimer = some 0 then
    (({ s with link.link := .down, link.linkTimer := none }).report (.linkChange .down)).loseTrust .link
  else s

/-! ## A whole frame -/

/-- The arrival of a whole frame, from its OPEN to its CLOSE, as the symbols it spells (1.4; log entry 11). -/
def State.receiveFrame (s : State) (f : Frame) : State :=
  let body := (f.octets ++ octets16 f.checkOf).foldl (fun st o => st.receive (.data o)) (s.receive .openSymbol)
  body.receive .closeSymbol

end Sys2Proof.Machine
end

