-- ==== Sys2Proof/Machine/Transmit.lean ====
section
/-! DEFINITION. The Downstream Transmitter's own progress (chapter 3): an IDLE sent (R38) and a transmit completion (R44). -/

namespace Sys2Proof.Machine

/-- One more IDLE in the gap, up to 2 (R38). -/
def raiseGap (gap : Nat) : Nat := min (gap + 1) 2

/-- An IDLE symbol has been sent. In IDLE-FILL every symbol is IDLE; in SENDING only those that complete the gap are; in
BYPASS the transmitter sends none of its own (R37, R38). A node that may leave BYPASS has left it (R17; log entry 7). -/
def State.sendIdle (s : State) : State :=
  let s' := s.leaveBypass
  match s'.tx.state with
  | .bypass => s'
  | .idleFill => { s' with tx.gap := raiseGap s'.tx.gap, downstream := s'.downstream ++ [.symbol .idle] }
  | .sending _ _ =>
    if s'.tx.gap < 2 then { s' with tx.gap := raiseGap s'.tx.gap, downstream := s'.downstream ++ [.symbol .idle] }
    else s'

/-- What goes out up to a completion: the IDLEs still missing from the gap, then the frame (R38; log entry 9). -/
def sentFrame (gap : Nat) (b : Buffer) : List Sent := List.replicate (2 - gap) (.symbol .idle) ++ [.frame b.octets]

/-- Steps 1 and 2 of a completion: the buffer is FREE, and a frame from insert is counted (R44, R46). -/
def State.finishFrame (s : State) (b : Buffer) (tag : Tag) : State :=
  let s' := ({ s with tx.state := .idleFill, tx.gap := 0, downstream := s.downstream ++ sentFrame s.tx.gap b }).release
  match tag with
  | .fromInsert => { s' with tx.framesSent := s.tx.framesSent + 1 }
  | .fromRepeat => s'

/-- A transmit completion (R44): the full reset starts when the frame was the reply it waits for (R45); otherwise the
arbiter is consulted with the gap count at 0. No effect outside SENDING. -/
def State.completeTransmission (s : State) (straps : BitVec 6) : State :=
  match s.tx.state with
  | .bypass | .idleFill => s
  | .sending b tag =>
    let s' := s.finishFrame b tag
    if b.resetReply && s.cmd.resetPending then s'.fullReset straps else s'.arbitrate

end Sys2Proof.Machine
end

