-- ==== Sys2Proof/Machine/Tick.lean ====
section
/-! DEFINITION. The tick event (R61 to R64) and the expiries that fall due at it. Each expiry is a command of its own, taken
in the order of the queue; those left untaken until the next tick are settled before it, in a free order (log entry 6). -/

namespace Sys2Proof.Machine

/-- Start-up completes when the local tick counter has reached 256 (R17). No effect otherwise, and none outside BYPASS: a
later pass through 256 has none (R61). -/
def State.startUpDue (s : State) : Bool :=
  s.resetn && s.inBypass && !s.tx.startUpDone && s.time.localTicks == BitVec.ofNat 32 Config.startUpTicks

/-- Start-up completion (R17). -/
def State.completeStartUp (s : State) : State :=
  if s.startUpDue then { s with tx.startUpDone := true } else s

/-- A bank is changed by the Output Unit's own timed work. -/
def State.withBank (s : State) (id : BankId) (f : Bank → Bank) : State :=
  { s with out := s.out.setBank id (f (s.out.bank id)) }

/-- The expiry of a bank's pending transition (R114). No effect while its timer has not been brought to 0. -/
def State.takeTransition (s : State) (id : BankId) : State :=
  if (s.out.bank id).transitionDue then s.withBank id Bank.expireTransition else s

/-- The expiry of a line's pulse (R117). No effect while its timer has not been brought to 0. -/
def State.takePulse (s : State) (id : BankId) (i : Fin 8) : State :=
  if (s.out.bank id).pulseDue i then s.withBank id (·.expirePulse i) else s

/-- The edge of a line's cadence (R119). No effect while no edge is outstanding. -/
def State.takeCadenceEdge (s : State) (id : BankId) (i : Fin 8) : State :=
  if (s.out.bank id).edgeDue i then s.withBank id (·.takeEdge i) else s

/-- The expiries that a tick can bring. -/
inductive Expiry where
  | startUp | silence | link | mark | holdover | due
  | deadTime (bank : BankId)
  | pulse (bank : BankId) (line : Fin 8)
  | cadence (bank : BankId) (line : Fin 8)
  deriving DecidableEq, Repr

/-- An expiry that this tick has brought and that has not been taken. -/
def State.isDue (s : State) : Expiry → Bool
  | .startUp => s.startUpDue
  | .silence => s.silenceDue
  | .link => s.link.linkTimer == some 0
  | .mark => s.time.markTimer == some 0
  | .holdover => s.time.holdoverTimer == some 0
  | .due => s.stepDue
  | .deadTime id => (s.out.bank id).transitionDue
  | .pulse id i => (s.out.bank id).pulseDue i
  | .cadence id i => (s.out.bank id).edgeDue i

/-- Taking an expiry. -/
def State.takeExpiry (s : State) : Expiry → State
  | .startUp => s.completeStartUp
  | .silence => s.loseActivity
  | .link => s.expireLinkTimer
  | .mark => s.expireMarkTimer
  | .holdover => s.expireHoldoverTimer
  | .due => s.takeDue
  | .deadTime id => s.takeTransition id
  | .pulse id i => s.takePulse id i
  | .cadence id i => s.takeCadenceEdge id i

/-- The eight pulses and cadences of a bank, and its pending transition. -/
def bankExpiries (id : BankId) : List Expiry :=
  .deadTime id :: ((List.finRange 8).map (.pulse id) ++ (List.finRange 8).map (.cadence id))

/-- Every expiry there is. -/
def allExpiries : List Expiry :=
  [.startUp, .silence, .link, .mark, .holdover, .due] ++ bankExpiries .a ++ bankExpiries .b ++ bankExpiries .c

/-- The expiries outstanding. -/
def State.outstanding (s : State) : List Expiry := allExpiries.filter s.isDue

/-- The expiry taken next of those outstanding: a free choice where there is more than one (log entry 6). -/
def State.settleOne (s : State) : State :=
  match s.outstanding with
  | [] => s
  | [e] => s.takeExpiry e
  | e :: e' :: es =>
    let due := e :: e' :: es
    ({ s with choices := s.choices + 1 }).takeExpiry (due.getD (Config.expiryOrder s.choices % due.length) e)

/-- Taking outstanding expiries one by one, at most so many. -/
def State.settleUpTo : Nat → State → State
  | 0, s => s
  | n + 1, s => State.settleUpTo n s.settleOne

/-- How many expiries can be outstanding: each held step, and each entry of allExpiries once. -/
def State.settleBound (s : State) : Nat := s.steps.held.length + allExpiries.length

/-- What the last tick brought is dealt with before the next: the expiries left untaken, and the leaving of BYPASS
(R17, R63; log entries 6 and 7). -/
def State.settle (s : State) : State := (State.settleUpTo s.settleBound s).leaveBypass

/-- The timers of the blocks at a tick (R2, R5, R62, R114, R117, R119). -/
def State.advance (s : State) : State :=
  { s with time := s.time.tick, link := s.link.tick, out := s.out.tick }

/-- One local tick. The local tick counter holds 0 while RESETn is low (R61). -/
def State.tick (s : State) : State := if s.resetn then s.settle.advance else s

end Sys2Proof.Machine
end

