-- ==== Sys2Proof/Machine/Expiries.lean ====
section
/-! DEFINITION. The meanings of the rows of expiries and edges. Each has no effect while the event it names is not
outstanding (log entry 5). -/

namespace Sys2Proof.Machine

/-- LINK_TIMER_EXPIRY (R5, R6, R134). -/
def execLinkTimerExpiry (s : State) : Result := .next s.expireLinkTimer

/-- DUE_EXPIRY (R93). -/
def execDueExpiry (s : State) : Result := .next s.takeDue

/-- DEAD_TIME_EXPIRY (R114). -/
def execDeadTimeExpiry (bank : BankId) (s : State) : Result := .next (s.takeTransition bank)

/-- PULSE_EXPIRY (R117). -/
def execPulseExpiry (bank : BankId) (line : Fin 8) (s : State) : Result := .next (s.takePulse bank line)

/-- CADENCE_EDGE (R119). -/
def execCadenceEdge (bank : BankId) (line : Fin 8) (s : State) : Result := .next (s.takeCadenceEdge bank line)

/-- MARK_TIMER_EXPIRY (R75, R78). -/
def execMarkTimerExpiry (s : State) : Result := .next s.expireMarkTimer

/-- HOLDOVER_TIMER_EXPIRY (R76, R78). -/
def execHoldoverTimerExpiry (s : State) : Result := .next s.expireHoldoverTimer

end Sys2Proof.Machine
end

