-- ==== Sys2Proof/Machine/Frames.lean ====
section
/-! DEFINITION. The meanings of the rows named after frames: the arrival of a TIME-MARK, a SCHEDULE, a broadcast DISARM and
of each of the management commands, as whole frames (log entry 11). What the node does with the frame is the Classifier's
(Classify.lean) and the Command Unit's (CommandUnit.lean). -/

namespace Sys2Proof.Machine

/-- The frame of a header, a KIND and a payload (Table 11.1). -/
def frameFor (h : Header) (kind : Octet) (payload : List Octet) : Frame :=
  { dest := h.dest, src := h.src, kind, hops := h.hops, seq := h.seq, payload }

/-- The COMMAND frame of a command and its parameters (Table 11.5). -/
def commandFrame (h : Header) (c : CommandCode) (params : List Octet) : Frame :=
  frameFor h kindCommand (c.octet :: params)

/-- TIME_MARK (R66). -/
def execTimeMark (h : Header) (markTime : Word32) (epoch hopsTaken attention : Octet) (s : State) : Result :=
  .next (s.receiveFrame (frameFor h kindTimeMark (markPayload markTime epoch hopsTaken attention)))

/-- SCHEDULE (R87). -/
def execSchedule (h : Header) (payload : List Octet) (s : State) : Result :=
  .next (s.receiveFrame (frameFor h kindSchedule payload))

/-- BROADCAST_DISARM (R133). -/
def execBroadcastDisarm (src hops : Octet) (seq : Word16) (s : State) : Result :=
  .next (s.receiveFrame (commandFrame { dest := 255, src, hops, seq } .disarm []))

/-- IDENT (R147). -/
def execIdent (h : Header) (s : State) : Result := .next (s.receiveFrame (commandFrame h .ident []))

/-- STATUS (R148). -/
def execStatus (h : Header) (page : Octet) (s : State) : Result :=
  .next (s.receiveFrame (commandFrame h .status [page]))

/-- ADDR-GET (R149, R60). -/
def execAddrGet (h : Header) (index : Octet) (s : State) : Result :=
  .next (s.receiveFrame (commandFrame h .addrGet [index]))

/-- ADDR-SET (R55 to R58, R150). -/
def execAddrSet (h : Header) (index address entryFlags : Octet) (s : State) : Result :=
  .next (s.receiveFrame (commandFrame h .addrSet [index, address, entryFlags]))

/-- CONFIG-GET (R151). -/
def execConfigGet (h : Header) (number : Octet) (s : State) : Result :=
  .next (s.receiveFrame (commandFrame h .configGet [number]))

/-- CONFIG-SET (R152). -/
def execConfigSet (h : Header) (number : Octet) (value : Word32) (s : State) : Result :=
  .next (s.receiveFrame (commandFrame h .configSet (number :: octets32 value)))

/-- ARM (R129). -/
def execArm (h : Header) (s : State) : Result := .next (s.receiveFrame (commandFrame h .arm []))

/-- DISARM (R132). -/
def execDisarm (h : Header) (s : State) : Result := .next (s.receiveFrame (commandFrame h .disarm []))

/-- LINE-SET STATIC (R121, R122): mode 0, P the value, Q not read. -/
def execLineSetStatic (h : Header) (line : Octet) (value q : Word16) (s : State) : Result :=
  .next (s.receiveFrame (commandFrame h .lineSet ([line, 0] ++ octets16 value ++ octets16 q)))

/-- LINE-SET CADENCE (R120, R122): mode 1, P the period, Q the on-time. -/
def execLineSetCadence (h : Header) (line : Octet) (period onTime : Word16) (s : State) : Result :=
  .next (s.receiveFrame (commandFrame h .lineSet ([line, 1] ++ octets16 period ++ octets16 onTime)))

/-- CANCEL (R98). -/
def execCancel (h : Header) (tag : Word16) (s : State) : Result :=
  .next (s.receiveFrame (commandFrame h .cancel (octets16 tag)))

/-- FLUSH (R99). -/
def execFlush (h : Header) (bankSet : Octet) (s : State) : Result :=
  .next (s.receiveFrame (commandFrame h .flush [bankSet]))

/-- QUEUE-PEEK (R103). -/
def execQueuePeek (h : Header) (start count : Octet) (s : State) : Result :=
  .next (s.receiveFrame (commandFrame h .queuePeek [start, count]))

/-- EVENT-FETCH (R170). -/
def execEventFetch (h : Header) (max : Octet) (s : State) : Result :=
  .next (s.receiveFrame (commandFrame h .eventFetch [max]))

/-- EVENT-ACK (R171 to R173). -/
def execEventAck (h : Header) (sequence : Word16) (s : State) : Result :=
  .next (s.receiveFrame (commandFrame h .eventAck (octets16 sequence)))

/-- RESET SOFT (R161). -/
def execResetSoft (h : Header) (s : State) : Result := .next (s.receiveFrame (commandFrame h .resetSoft []))

/-- RESET FULL (R162). -/
def execResetFull (h : Header) (s : State) : Result := .next (s.receiveFrame (commandFrame h .resetFull []))

end Sys2Proof.Machine
end

