-- ==== Sys2Proof/Machine/Pins.lean ====
section
/-! DEFINITION. The meanings of the rows of the reset pin, the clock and start-up. -/

namespace Sys2Proof.Machine

/-- RESETN_FALL (R109, R16, R20). -/
def execResetnFall (s : State) : Result := .next s.resetnFalls

/-- RESETN_RISE (R61, R49, R166). A pin that is high does not rise: no effect then (log entry 18). -/
def execResetnRise (straps : BitVec 6) (s : State) : Result :=
  .next (if s.resetn then s else s.resetnRises straps)

/-- TICK_EVENT (R63). -/
def execTickEvent (s : State) : Result := .next s.tick

/-- START_UP_COMPLETION (R17). -/
def execStartUpCompletion (s : State) : Result := .next s.completeStartUp

/-- LEAVE_BYPASS (R17). -/
def execLeaveBypass (s : State) : Result := .next s.leaveBypass

end Sys2Proof.Machine
end

