-- ==== Sys2Proof/Machine/Symbols.lean ====
section
/-! DEFINITION. The meanings of the rows of Upstream-In and of the transmitter's own progress. -/

namespace Sys2Proof.Machine

/-- IDLE (R3). -/
def execIdle (s : State) : Result := .next (s.receive .idle)

/-- OPEN (R10, R14). -/
def execOpen (s : State) : Result := .next (s.receive .openSymbol)

/-- DATA_OCTET (R11). -/
def execDataOctet (octet : Octet) (s : State) : Result := .next (s.receive (.data octet))

/-- ABORT (R14). -/
def execAbort (s : State) : Result := .next (s.receive .abort)

/-- INVALID_SYMBOL (R4, R15). -/
def execInvalidSymbol (s : State) : Result := .next (s.receive .invalid)

/-- LOSS_OF_ACTIVITY (R2). -/
def execLossOfActivity (s : State) : Result := .next s.loseActivity

/-- CLOSE (R12). -/
def execClose (s : State) : Result := .next (s.receive .closeSymbol)

/-- IDLE_SYMBOL_SENT (R38). -/
def execIdleSymbolSent (s : State) : Result := .next s.sendIdle

/-- TRANSMIT_COMPLETION (R44). -/
def execTransmitCompletion (straps : BitVec 6) (s : State) : Result := .next (s.completeTransmission straps)

end Sys2Proof.Machine
end

