-- ==== Sys2Proof/Machine/Dispatch.lean ====
section
/-! DEFINITION. The effect of a command on everything but the queue of waiting commands, one arm for each row of
spec/opcode_table.json. -/

namespace Sys2Proof.Machine

def exec (i : Instr) (s : State) : Host.Outcome State Fault Refusal :=
  match i with
  | .resetnFall => Sys2Proof.Machine.execResetnFall s
  | .resetnRise straps => Sys2Proof.Machine.execResetnRise straps s
  | .tickEvent => Sys2Proof.Machine.execTickEvent s
  | .startUpCompletion => Sys2Proof.Machine.execStartUpCompletion s
  | .leaveBypass => Sys2Proof.Machine.execLeaveBypass s
  | .idle => Sys2Proof.Machine.execIdle s
  | .openSymbol => Sys2Proof.Machine.execOpen s
  | .dataOctet octet => Sys2Proof.Machine.execDataOctet octet s
  | .abort => Sys2Proof.Machine.execAbort s
  | .invalidSymbol => Sys2Proof.Machine.execInvalidSymbol s
  | .lossOfActivity => Sys2Proof.Machine.execLossOfActivity s
  | .linkTimerExpiry => Sys2Proof.Machine.execLinkTimerExpiry s
  | .closeSymbol => Sys2Proof.Machine.execClose s
  | .timeMark h markTime epoch hopsTaken attention => Sys2Proof.Machine.execTimeMark h markTime epoch hopsTaken attention s
  | .schedule h payload => Sys2Proof.Machine.execSchedule h payload s
  | .broadcastDisarm src hops seq => Sys2Proof.Machine.execBroadcastDisarm src hops seq s
  | .dueExpiry => Sys2Proof.Machine.execDueExpiry s
  | .deadTimeExpiry bank => Sys2Proof.Machine.execDeadTimeExpiry bank s
  | .pulseExpiry bank line => Sys2Proof.Machine.execPulseExpiry bank line s
  | .cadenceEdge bank line => Sys2Proof.Machine.execCadenceEdge bank line s
  | .markTimerExpiry => Sys2Proof.Machine.execMarkTimerExpiry s
  | .holdoverTimerExpiry => Sys2Proof.Machine.execHoldoverTimerExpiry s
  | .transmitCompletion straps => Sys2Proof.Machine.execTransmitCompletion straps s
  | .ident h => Sys2Proof.Machine.execIdent h s
  | .status h page => Sys2Proof.Machine.execStatus h page s
  | .addrGet h index => Sys2Proof.Machine.execAddrGet h index s
  | .addrSet h index address entryFlags => Sys2Proof.Machine.execAddrSet h index address entryFlags s
  | .configGet h number => Sys2Proof.Machine.execConfigGet h number s
  | .configSet h number value => Sys2Proof.Machine.execConfigSet h number value s
  | .arm h => Sys2Proof.Machine.execArm h s
  | .disarm h => Sys2Proof.Machine.execDisarm h s
  | .lineSetStatic h line value q => Sys2Proof.Machine.execLineSetStatic h line value q s
  | .lineSetCadence h line period onTime => Sys2Proof.Machine.execLineSetCadence h line period onTime s
  | .cancel h tag => Sys2Proof.Machine.execCancel h tag s
  | .flush h bankSet => Sys2Proof.Machine.execFlush h bankSet s
  | .queuePeek h start count => Sys2Proof.Machine.execQueuePeek h start count s
  | .eventFetch h max => Sys2Proof.Machine.execEventFetch h max s
  | .eventAck h sequence => Sys2Proof.Machine.execEventAck h sequence s
  | .resetSoft h => Sys2Proof.Machine.execResetSoft h s
  | .resetFull h => Sys2Proof.Machine.execResetFull h s
  | .idleSymbolSent => Sys2Proof.Machine.execIdleSymbolSent s

end Sys2Proof.Machine
end

