-- ==== Sys2Proof/Safety.lean ====
section
/-! DEFINITION. The laws of the node's state that every command keeps, and the words the statements are made of: when a
frame can be received, what its arrival leaves, what answering a command leaves, and the layout of a SCHEDULE payload. -/

namespace Sys2Proof.Machine

/-! ## Buffers (R10, R16, R18, R37, R38, R39, R40) -/

/-- How many buffers are RECEIVING (R18). -/
def Assembly.receiving : Assembly → Nat
  | .assembling _ => 1
  | .outside | .skipping => 0

/-- The octets that the RECEIVING buffer stores (R11). -/
def Assembly.stored : Assembly → List Octet
  | .assembling octets => octets
  | .outside | .skipping => []

/-- The transmitter holds a frame. -/
def TxState.isSending : TxState → Bool
  | .sending _ _ => true
  | .bypass | .idleFill => false

/-- The ten buffers are conserved, the insert side keeps its limit, queues are empty outside SENDING, the credit is 0 with an
empty Insert Queue, and no frame is assembled outside IN-SYNC or in BYPASS. -/
abbrev State.BufferLaw (s : State) : Prop :=
  s.pool.free + s.link.assembly.receiving + s.pool.repeatQueue.length + s.tx.insertQueue.length
      + s.tx.state.transmitting = Config.bufferCount
    ∧ s.tx.insertSide ≤ Config.insertLimit
    ∧ (s.tx.state.isSending = false → s.pool.repeatQueue = [] ∧ s.tx.insertQueue = [])
    ∧ (s.tx.insertQueue = [] → s.tx.credit = 0) ∧ s.tx.credit ≤ 2
    ∧ s.tx.gap ≤ 2
    ∧ (s.link.rx ≠ .inSync ∨ s.inBypass = true → s.link.assembly = .outside)
    ∧ s.link.assembly.stored.length ≤ Config.bufferOctets

/-! ## Contents of buffers (R7, R12, R42, R43) -/

/-- A buffer holds at most 96 octets of payload, and a CHECK marked current is the frame's. -/
abbrev Buffer.Sound (b : Buffer) : Prop :=
  b.frame.payload.length ≤ Config.payloadLimit ∧ (b.checkCurrent = true → b.check = b.frame.checkOf)

/-- An item of Downstream-Out is sound when, being a whole frame, it passes the receiver's own checks (R12). -/
def Sent.sound : Sent → Bool
  | .frame octets => lengthGood octets && checkGood octets
  | .symbol _ | .cutFrame _ => true

/-- The TRANSMITTING buffer, if any. -/
def TxState.buffer : TxState → Option Buffer
  | .sending b _ => some b
  | .bypass | .idleFill => none

/-- Every buffer is sound, every buffer of the Repeat Queue and the one being sent has its CHECK current, the recorded reply
fits a frame, and every frame sent so far carries a right LEN and CHECK. -/
abbrev State.CheckLaw (s : State) : Prop :=
  (∀ b ∈ s.pool.repeatQueue, b.Sound ∧ b.checkCurrent = true)
    ∧ (∀ b ∈ s.tx.insertQueue, b.Sound)
    ∧ (∀ b ∈ s.tx.state.buffer, b.Sound ∧ b.checkCurrent = true)
    ∧ (∀ l ∈ s.cmd.last, l.payload.length ≤ Config.payloadLimit)
    ∧ (∀ x ∈ s.downstream, x.sound = true)

/-! ## Steps (R78, R84, R101, R105) -/

/-- Every accepted step is accounted for (R105). -/
abbrev State.StepsAccounted (s : State) : Prop :=
  let c := s.steps.counters
  c.accepted = c.applied + c.lateApplied + c.lateDropped + c.suppressed + c.cancelled + c.flushed
    + BitVec.ofNat 32 s.steps.held.length

/-- A due time as a distance from one tick before network time; a step that has just fallen due, at an absorbing tick even one
tick ago (R64, R93), reads 0 or 1, and order and limit can be read without wrapping. -/
def State.reach (s : State) (st : Step) : Nat := (st.due - s.time.networkTime + 1).toNat

/-- At most 64 steps, in order of due time, none more than 2^29 ticks ahead (R84). -/
abbrev State.QueueOrder (s : State) : Prop :=
  s.steps.held.length ≤ Config.stepLimit
    ∧ (∀ st ∈ s.steps.held, s.reach st ≤ 536870913)
    ∧ s.steps.held.Pairwise fun a b => s.reach a ≤ s.reach b

/-- An armed node has network time and a link, and a node in FAILSAFE or in UNSYNCED holds no step (R78, R101, R134). -/
abbrev State.RunLaw (s : State) : Prop :=
  (s.run = .armed → s.time.sync ≠ .unsynced ∧ s.link.link = .up)
    ∧ (s.run = .failsafe → s.steps.held = [])
    ∧ (s.time.sync = .unsynced → s.steps.held = [])

/-! ## Event List (R164, R165) -/

/-- At most 16 records with consecutive sequences up to the next one, the fetched ones at the oldest end, counts in range. -/
abbrev EventList.Law (l : EventList) : Prop :=
  l.records.length ≤ Config.eventLimit
    ∧ (∀ i : Fin l.records.length, l.records[i].sequence + BitVec.ofNat 16 (l.records.length - i) = l.nextSeq)
    ∧ l.records.Pairwise (fun a b => b.fetched = true → a.fetched = true)
    ∧ (∀ e ∈ l.records, 1 ≤ e.count ∧ e.count ≤ 65535)
    ∧ l.overflow ≤ 65535

/-! ## Output Unit (R107, R108, R112, R117, R119, R123) -/

/-- A line record within the ranges of Table 7.3, against the value its latch reads: a pulse drives the other value than the
one it reverts to. -/
def LineMode.lawful (value : Bool) : LineMode → Bool
  | .static => true
  | .pulse revert left _ => value == !revert && decide (left ≤ 65535)
  | .cadence period onTime phase _ => decide (1 ≤ onTime ∧ onTime < period ∧ period ≤ 65535 ∧ phase < period)

/-- A line of a make set reads 0 and is STATIC; only such lines carry a pending pulse, of width 1 at least (R108, R112). -/
abbrev Transition.Law (t : Transition) (latch : Octet) (lines : Vector LineMode 8) : Prop :=
  t.timer ≤ 255
    ∧ ∀ i : Fin 8, (inSet t.makeSet i = true → inSet latch i = false ∧ lines[i] = .static)
        ∧ ∀ q ∈ t.pulses[i], inSet t.makeSet i = true ∧ q.width ≠ 0

/-- A bank's records agree with its latch. -/
abbrev Bank.Law (b : Bank) : Prop :=
  (∀ i : Fin 8, b.lines[i].lawful (inSet b.latch i) = true) ∧ ∀ t ∈ b.transition, t.Law b.latch b.lines

/-- The three banks obey Bank.Law, and no held step carries a pulse of width 0 (R86). -/
abbrev State.BankLaw (s : State) : Prop :=
  s.out.bankA.Law ∧ s.out.bankB.Law ∧ s.out.bankC.Law ∧ ∀ st ∈ s.steps.held, st.pulse ≠ some 0

/-- The lines waiting to be made (R107). -/
def Bank.waiting (b : Bank) : Octet := (b.transition.map (·.makeSet)).getD 0

/-- A bank at its safe pattern: all lines STATIC, no pending pulse, and the latch, with the lines still waiting to be made,
is the pattern (R123). -/
abbrev Bank.AtSafePattern (b : Bank) : Prop :=
  (∀ i : Fin 8, b.lines[i] = .static) ∧ b.latch ||| b.waiting = b.safePattern
    ∧ ∀ t ∈ b.transition, ∀ i : Fin 8, t.pulses[i] = none

/-- Outside ARMED every bank is at its safe pattern (R123). -/
abbrev State.SafeOutputs (s : State) : Prop :=
  s.run ≠ .armed → s.out.bankA.AtSafePattern ∧ s.out.bankB.AtSafePattern ∧ s.out.bankC.AtSafePattern

/-! ## Address Table (R47, R50, R53) -/

/-- The addresses that an index may hold (Table 4.2). -/
abbrev addressAllowed (i : Fin 9) (a : Octet) : Prop := if i = 8 then a = 255 else a ≠ 0 ∧ a ≠ 255

/-- Entry 0 holds an address, no two entries hold the same, each holds one of its class, and a disabled entry keeps no
schedule SEQ. -/
abbrev AddressTable.Law (t : AddressTable) : Prop :=
  t.entries[0].address ≠ none
    ∧ (∀ i j : Fin 9, i ≠ j → ∀ a ∈ t.entries[i].address, t.entries[j].address ≠ some a)
    ∧ (∀ i : Fin 9, ∀ a ∈ t.entries[i].address, addressAllowed i a)
    ∧ ∀ i : Fin 9, t.entries[i].address = none → t.entries[i].lastSeq = none

/-! ## Parameters and timers (Tables 5.1, 5.4, 6.5, 9.7) -/

/-- A value lies in a parameter's range. -/
abbrev Param.inRange (p : Param) (n : Nat) : Prop := p.range.1 ≤ n ∧ n ≤ p.range.2

/-- Every parameter kept as a number is within the range of Table 9.7. -/
abbrev State.ParamLaw (s : State) : Prop :=
  Param.acceptWindow.inRange s.steps.acceptWindow ∧ Param.lateLimit.inRange s.steps.lateLimit
    ∧ Param.lockWindow.inRange s.time.lockWindow ∧ Param.slewLimit.inRange s.time.slewLimit
    ∧ Param.markTimeout.inRange s.time.markTimeout ∧ Param.holdoverLimit.inRange s.time.holdoverLimit
    ∧ Param.hopDelay.inRange s.time.hopDelay ∧ Param.linkTimeout.inRange s.link.linkTimeout

/-- The fields of Table 5.1 by sync state: the epoch is held outside UNSYNCED, the mark timer runs in ACQUIRING and LOCKED,
the holdover timer in HOLDOVER (R75, R76), the residue is 0 outside LOCKED and HOLDOVER. -/
abbrev Timebase.Law (t : Timebase) : Prop :=
  (t.sync = .unsynced → t.epoch = none ∧ t.goodMarks = 0)
    ∧ (t.sync ≠ .unsynced → t.epoch ≠ none)
    ∧ (t.sync = .acquiring → t.goodMarks = 1 ∨ t.goodMarks = 2)
    ∧ (t.sync = .locked ∨ t.sync = .holdover → t.goodMarks = 3)
    ∧ t.outliers ≤ 1 ∧ (t.sync ≠ .locked → t.outliers = 0)
    ∧ t.residue.natAbs ≤ 65535 ∧ (t.sync = .unsynced ∨ t.sync = .acquiring → t.residue = 0)
    ∧ (t.markTimer ≠ none ↔ t.sync = .acquiring ∨ t.sync = .locked)
    ∧ (t.holdoverTimer ≠ none ↔ t.sync = .holdover)

/-- The parameters are in range and the Timebase obeys Table 5.1; the ranges bound the residue that a mark sets. -/
abbrev State.TimeLaw (s : State) : Prop := s.ParamLaw ∧ s.time.Law

/-- The link timer runs exactly while the link is UP and the receiver out of IN-SYNC; IN-SYNC means UP (R5); the runs
and the count of silent ticks stay in their ranges; a frame being assembled or skipped stands in an open bracket (R2, R3, R4,
R16). -/
abbrev LinkReceiver.Law (l : LinkReceiver) : Prop :=
  (l.rx = .inSync → l.link = .up)
    ∧ (l.linkTimer ≠ none ↔ l.link = .up ∧ l.rx ≠ .inSync)
    ∧ l.idleRun ≤ Config.syncRun ∧ (l.rx ≠ .inSync → l.idleRun < Config.syncRun)
    ∧ l.errorRun < Config.errorLimit ∧ l.validRun ≤ Config.syncRun ∧ l.silence ≤ Config.silentTicks
    ∧ (l.bracketOpen = true → l.rx = .inSync)
    ∧ (l.assembly ≠ .outside → l.bracketOpen = true)

/-! ## The words of the statements: resets and runs -/

/-- The node at pin reset, RESETn low, with the kept strap value given, every value written out: Table 4.3, the defaults of
Table 9.7, and each block's own (R2, R5, R16, R20, R36, R37, R39, R40, R46, R48, R49, R81, R85, R107, R108, R128, R140,
R175). The count of silent ticks, the gap count, the mark of start-up, the next sequence before the RESET record and the last
three fields are the model's (log entries 1, 6, 8, 10, 15, 19, 20). -/
def freshNode (straps : BitVec 6) : State :=
  let listening (address : Octet) : AddrEntry :=
    { address := some address, bankMask := 7, acceptMark := true, acceptSchedule := true, lastSeq := none }
  let group : AddrEntry :=
    { address := none, bankMask := 0, acceptMark := false, acceptSchedule := false, lastSeq := none }
  let bank : Bank :=
    { latch := 0, safePattern := 0, deadTime := 4, transition := none, lines := Vector.replicate 8 .static }
  { resetn := false
    link := {
      rx := .noSignal, silence := 0, idleRun := 0, errorRun := 0, validRun := 0, link := .down, linkTimer := none
      linkTimeout := 2000, assembly := .outside, bracketOpen := false }
    pool := { free := 10, repeatQueue := [] }
    rx := {
      framesGood := 0, framesRepeated := 0, framesConsumed := 0, frameErrors := 0, noBufferDrops := 0, returned := 0
      expired := 0, filtered := 0, duplicateSchedules := 0 }
    tx := { state := .bypass, insertQueue := [], credit := 0, gap := 0, framesSent := 0, startUpDone := false }
    table := {
      entries := #v[listening (BitVec.ofNat 8 (straps.toNat + 1)), group, group, group, group, group, group, group, listening 255]
      strapValue := straps }
    time := {
      localTicks := 0, networkTime := 0, sync := .unsynced, epoch := none, goodMarks := 0, outliers := 0, residue := 0
      markTimer := none, holdoverTimer := none, lockWindow := 8, slewLimit := 200, markTimeout := 250000
      holdoverLimit := 5000000, hopDelay := 0 }
    steps := {
      held := []
      counters := {
        accepted := 0, applied := 0, lateApplied := 0, lateDropped := 0, suppressed := 0, cancelled := 0, flushed := 0 }
      acceptWindow := 16777216, lateLimit := 500 }
    out := { bankA := bank, bankB := bank, bankC := bank }
    run := .safe
    cmd := { last := none, resetPending := false }
    events := { records := [], nextSeq := 0, overflow := 0, attentionLevel := .warning }
    downstream := [], choices := 0, pending := [] }

/-- Some commands, run one after another, lead from one state to another. -/
def Runs : List Instr → State → State → Prop
  | [], s, t => s = t
  | c :: cs, s, t => ∃ u : State, exec c s = .next u ∧ Runs cs u t

/-! ## The words of the statements: symbols and frames -/

/-- The command that is the arrival of a symbol. -/
def Symbol.command : Symbol → Instr
  | .data octet => .dataOctet octet
  | .idle => .idle
  | .openSymbol => .openSymbol
  | .closeSymbol => .closeSymbol
  | .abort => .abort
  | .invalid => .invalidSymbol

/-- The receiver after n valid symbols in IN-SYNC, with the assembly and the bracket given: no tick since the last of them
has been silent (R2, R4). -/
def LinkReceiver.afterValid (l : LinkReceiver) (n : Nat) (assembly : Assembly) (bracketOpen : Bool) : LinkReceiver :=
  { l with
    silence := 0
    validRun := min (l.validRun + n) 16
    errorRun := if 16 ≤ l.validRun + n then 0 else l.errorRun
    assembly, bracketOpen }

/-- The command that is the taking of an expiry. -/
def Expiry.command : Expiry → Instr
  | .startUp => .startUpCompletion
  | .silence => .lossOfActivity
  | .link => .linkTimerExpiry
  | .mark => .markTimerExpiry
  | .holdover => .holdoverTimerExpiry
  | .due => .dueExpiry
  | .deadTime id => .deadTimeExpiry id
  | .pulse id i => .pulseExpiry id i
  | .cadence id i => .cadenceEdge id i

/-- A symbol taken in IN-SYNC, outside BYPASS, while RESETn is high. -/
abbrev State.Assembles (s : State) : Prop := s.resetn = true ∧ s.link.rx = .inSync ∧ s.inBypass = false

/-- A whole frame can be received now (R10, R16, R19). -/
abbrev State.ReadyForFrame (s : State) : Prop := s.Assembles ∧ s.link.assembly = .outside ∧ 0 < s.pool.free

/-- The octets of a frame between OPEN and CLOSE, its right CHECK last (Table 11.1, R9). -/
def Frame.onLink (f : Frame) : List Octet := f.octets ++ octets16 f.checkOf

/-- The buffer that a frame has filled (R42). -/
def Frame.received (f : Frame) : Buffer :=
  { frame := f, check := f.checkOf, checkCurrent := true, resetReply := false }

/-- The node at the CLOSE of a good frame, whose buffer is in no holder until it is classified: one buffer fewer is FREE and
the frame is counted (R4, R12, R16, R35). A frame is LEN + 11 symbols from OPEN to CLOSE. -/
def State.atClose (s : State) (f : Frame) : State :=
  { s with
    link := s.link.afterValid (f.payload.length + 11) .outside false
    pool.free := s.pool.free - 1
    rx.framesGood := s.rx.framesGood + 1 }

/-- The same with the frame counted as consumed (R35). -/
def State.taken (s : State) (f : Frame) : State :=
  { s.atClose f with rx.framesConsumed := s.rx.framesConsumed + 1 }

/-- A frame with this header, not the node's own, reaches the entry with this index (R21, R22). -/
abbrev State.Reaches (s : State) (h : Header) (i : Fin 9) : Prop :=
  s.ReadyForFrame ∧ s.table.unitAddress ≠ some h.src ∧ h.dest ≠ 0 ∧ s.table.matching h.dest = some i

/-- After its contents have been used a frame is discarded when entry 0 matched it, and repeated otherwise (R24, R26). -/
def State.passedOn (s : State) (i : Fin 9) (f : Frame) : State :=
  if i = 0 then { s with pool.free := s.pool.free + 1 } else s.repeatFrame f.received

/-- A frame addressed to the node alone, not its own (R21, R22, R24). -/
abbrev State.ForUnit (s : State) (h : Header) : Prop :=
  s.ReadyForFrame ∧ s.table.unitAddress = some h.dest ∧ h.dest ≠ 0 ∧ h.src ≠ h.dest

/-- A command with this header is executed: case 4 of R141. -/
abbrev State.Executes (s : State) (h : Header) : Prop :=
  s.ForUnit h ∧ s.cmd.resetPending = false ∧ s.tx.insertSide < Config.insertLimit
    ∧ ∀ l ∈ s.cmd.last, ¬(l.src = h.src ∧ l.seq = h.seq)

/-- The reply frame of R41. -/
def replyTo (f : Frame) (payload : List Octet) : Frame :=
  { dest := f.src, src := f.dest, kind := 0x54, hops := 255, seq := f.seq, payload }

/-- The payload of a reply built in a state (R145, Table 11.8). -/
def State.replyPayload (t : State) (code : Octet) (r : CommandResult) (data : List Octet) : List Octet :=
  [code, r.code, t.stateOctet, octetOf t.events.records.length] ++ data

/-- A command answered and recorded: the reply is built from the state its effects left, recorded, and joins the Insert
Queue in the command's buffer with its CHECK not current (R41, R42, R145, R146). -/
def State.answered (t : State) (f : Frame) (code : Octet) (r : CommandResult) (data : List Octet) : State :=
  let payload := t.replyPayload code r data
  ({ t with cmd.last := some { src := f.src, seq := f.seq, payload } }).joinInsert
    { frame := replyTo f payload, check := f.checkOf, checkCurrent := false, resetReply := false }

/-! ## The words of the statements: schedules -/

/-- The octets of a step record (Tables 11.3 and 11.4). -/
def Step.record (st : Step) : List Octet :=
  octets16 st.tag ++ octets32 st.due ++ [st.control, st.value, st.mask]
    ++ (match st.pulse with
        | none => []
        | some w => octets16 w)

/-- Some octets are a well-formed record, and a step is what it says: bits 7 to 5 of CONTROL are 0, its bank field is 0, 1
or 2, and a width stands in the record when bit 4 is set, where 0 means none (R86, R177, Table 11.4). -/
def IsRecordOf (source : Fin 9) (octets : List Octet) (st : Step) : Prop :=
  ∃ (control : Octet) (width : List Octet),
    octets = octets16 st.tag ++ octets32 st.due ++ [control, st.value, st.mask] ++ width
      ∧ control.toNat < 32
      ∧ control.toNat % 4 = (match st.bank with
          | .a => 0
          | .b => 1
          | .c => 2)
      ∧ (st.mode = .breakBeforeMake ↔ control.getLsbD 2 = true)
      ∧ (st.policy = .apply ↔ control.getLsbD 3 = true)
      ∧ st.source = source
      ∧ if control.getLsbD 4 then ∃ w : Word16, width = octets16 w ∧ st.pulse = if w = 0 then none else some w
        else width = [] ∧ st.pulse = none

/-- The SCHEDULE payload of some steps: COUNT and their records (11.2). -/
def schedulePayload (sts : List Step) : List Octet := octetOf sts.length :: sts.flatMap Step.record

end Sys2Proof.Machine
end

