-- ==== Sys2Proof/Certificates/Slice0/Obligations.lean ====
section
/-! DEFINITION. The statements for the provers. A statement about a command gives the whole state the command leaves, so
that it is its frame too: every field it does not write reads as before. -/

open Sys2Proof Sys2Proof.Machine

/-! ## The step -/

/-- One step runs the command at the front of the queue on the state whose queue is the rest. -/
def Obligations.StepRunsTheFrontCommand : Prop :=
  ∀ (s : State) (c : Instr) (rest : List Instr),
    s.pending = c :: rest → step s = exec c { s with pending := rest }

/-- Every command of the table completes, in every state, and leaves the queue of waiting commands alone. -/
def Obligations.EveryCommandCompletes : Prop :=
  ∀ (s : State) (c : Instr), ∃ t : State, exec c s = .next t ∧ t.pending = s.pending

/-- MODEL'S CHOICE (log entries 1, 5, 8, 9, 18): an empty queue idles, and a command that names an event which is not
outstanding changes nothing. -/
def Obligations.AbsentEventsChangeNothing : Prop :=
  ∀ (s : State) (straps : BitVec 6) (id : BankId) (i : Fin 8),
    (s.pending = [] → step s = .next s)
    ∧ (s.resetn = true → exec (.resetnRise straps) s = .next s)
    ∧ (s.startUpDue = false → exec .startUpCompletion s = .next s)
    ∧ (s.mayLeaveBypass = false → exec .leaveBypass s = .next s)
    ∧ (s.link.silence < 2 → exec .lossOfActivity s = .next s)
    ∧ (s.link.linkTimer ≠ some 0 → exec .linkTimerExpiry s = .next s)
    ∧ (s.time.markTimer ≠ some 0 → exec .markTimerExpiry s = .next s)
    ∧ (s.time.holdoverTimer ≠ some 0 → exec .holdoverTimerExpiry s = .next s)
    ∧ (s.stepDue = false → exec .dueExpiry s = .next s)
    ∧ ((s.out.bank id).transitionDue = false → exec (.deadTimeExpiry id) s = .next s)
    ∧ ((s.out.bank id).pulseDue i = false → exec (.pulseExpiry id i) s = .next s)
    ∧ ((s.out.bank id).edgeDue i = false → exec (.cadenceEdge id i) s = .next s)
    ∧ (s.tx.state.isSending = false → exec (.transmitCompletion straps) s = .next s)

/-! ## Reset pin, clock, start-up -/

/-- RESETn falls: every block takes its pin-reset value, a frame being sent is cut off, and the pins drive 0. RESETn
rises: the straps are sampled and the Event List holds one RESET record with reason PIN; everything else stands at its
reset value. The values are written out in freshNode: the address table with the unit address at the strap value plus
1, the parameters at their defaults. While RESETn is high the pins follow the latches (R16, R20, R48, R49, R81, R85,
R107 to R109, R127, R166, R175, Table 9.7). State.reset is that node at the strap value 0, which like the record of
Downstream-Out, the count of free orders, and the values freshNode names as the model's, is the model's choice (log
entries 1, 3, 6, 8, 10, 15, 19, 20). -/
def Obligations.ResetPinResetsAndStartsTheNode : Prop :=
  (∀ (s : State) (id : BankId),
      exec .resetnFall s = .next { freshNode s.table.strapValue with
        downstream := s.downstream ++ (s.tx.state.buffer.map fun b => Sent.cutFrame b.octets).toList
        choices := s.choices
        pending := s.pending }
      ∧ s.resetnFalls.pins id = 0)
  ∧ (∀ (s : State) (straps : BitVec 6), s.resetn = false →
      exec (.resetnRise straps) s = .next { freshNode straps with
        resetn := true
        events := {
          records := [{ sequence := 0, kind := .reset, severity := .info, time := 0, timeValid := false, count := 1,
                        reason := some 1, tag := none, detail := none, fetched := false }]
          nextSeq := 1, overflow := 0, attentionLevel := .warning }
        downstream := s.downstream
        choices := s.choices
        pending := s.pending })
  ∧ State.reset = freshNode 0
  ∧ (∀ (s : State) (id : BankId),
      s.pins id =
        if s.resetn then
          match id with
          | .a => s.out.bankA.latch
          | .b => s.out.bankB.latch
          | .c => s.out.bankC.latch
        else 0)

/-- A tick with nothing outstanding from the tick before: network time advances by one, at a multiple of 64 by two or
by nothing while a residue is absorbed, every timer, pulse and cadence counts one tick, and the ticks since the last
symbol are counted up to 2; while RESETn is low nothing changes (R61 to R64, R114, R117, R119). That the ticks without
a symbol of R2 are counted on tick events, up to 2, that a tick changes nothing while RESETn is low, and the mark of an
edge reached, are the model's (log entries 8, 18, 20). -/
def Obligations.TickAdvancesTimeAndTimers : Prop :=
  ∀ (s : State),
    (s.resetn = false → exec .tickEvent s = .next s)
    ∧ (s.resetn = true → s.outstanding = [] → s.mayLeaveBypass = false →
      let absorbing := (s.time.localTicks + 1).toNat % 64 = 0
      let line (m : LineMode) : LineMode :=
        match m with
        | .static => .static
        | .pulse revert left mode => .pulse revert (left - 1) mode
        | .cadence period onTime phase _ =>
          let reached := if phase + 1 < period then phase + 1 else 0
          .cadence period onTime reached (reached == 0 || reached == onTime)
      let bank (b : Bank) : Bank :=
        { b with
          transition := b.transition.map fun t => { t with timer := t.timer - 1 }
          lines := b.lines.map line }
      exec .tickEvent s = .next { s with
        time := { s.time with
          localTicks := s.time.localTicks + 1
          networkTime := s.time.networkTime
            + (if absorbing ∧ 0 < s.time.residue then 2 else if absorbing ∧ s.time.residue < 0 then 0 else 1)
          residue :=
            if absorbing ∧ 0 < s.time.residue then s.time.residue - 1
            else if absorbing ∧ s.time.residue < 0 then s.time.residue + 1 else s.time.residue
          markTimer := s.time.markTimer.map (· - 1)
          holdoverTimer := s.time.holdoverTimer.map (· - 1) }
        link := { s.link with
          linkTimer := s.link.linkTimer.map (· - 1)
          silence := min (s.link.silence + 1) 2 }
        out := { bankA := bank s.out.bankA, bankB := bank s.out.bankB, bankC := bank s.out.bankC } })

/-- A tick first settles what is outstanding and then advances. Settling takes an outstanding expiry, as its own command
does, and settles what that leaves; with none outstanding it is LEAVE_BYPASS; it ends with nothing outstanding and
BYPASS left where it may be. An expiry is outstanding when start-up is complete at tick 256, two ticks have been
silent, a timer, transition or pulse has come to 0, a held step is due, or a cadence edge is reached (R2, R5, R17,
R63, R75, R76, R93, R114, R117, R119). The model's: that all expiries are taken before the next tick, and the count of
free orders (log entry 6, DESIGN CHOICE); that BYPASS has been left before the next tick (log entry 7, DEDUCED from
R17); the count of silent ticks that makes a loss outstanding (log entry 8, for R2); the marks of start-up and of a
cadence edge reached (log entry 20). Without the two laws an unreachable state could start pulses of width 0 again and
again. -/
def Obligations.NothingOutstandingAfterSettling : Prop :=
  ∀ (s : State),
    (s.resetn = true → exec .tickEvent s = .next s.settle.advance)
    ∧ (∀ e : Expiry, e ∈ s.outstanding ↔
        match e with
        | .startUp =>
          s.resetn = true ∧ s.tx.state = .bypass ∧ s.tx.startUpDone = false ∧ s.time.localTicks = 256
        | .silence => s.resetn = true ∧ s.link.rx ≠ .noSignal ∧ 2 ≤ s.link.silence
        | .link => s.link.linkTimer = some 0
        | .mark => s.time.markTimer = some 0
        | .holdover => s.time.holdoverTimer = some 0
        | .due => ∃ st ∈ s.steps.held.head?, isAfter st.due s.time.networkTime = false
        | .deadTime id => ∃ t ∈ (s.out.bank id).transition, t.timer = 0
        | .pulse id i => ∃ revert mode, (s.out.bank id).lines[i] = .pulse revert 0 mode
        | .cadence id i => ∃ period onTime phase, (s.out.bank id).lines[i] = .cadence period onTime phase true)
    ∧ (s.outstanding = [] → exec .leaveBypass s = .next s.settle)
    ∧ (s.BankLaw → s.TimeLaw → s.outstanding ≠ [] →
      ∃ e ∈ s.outstanding, ∃ k ≤ 1, ∃ u : State,
        exec e.command { s with choices := s.choices + k } = .next u ∧ s.settle = u.settle)
    ∧ (s.BankLaw → s.TimeLaw → s.settle.outstanding = [] ∧ s.settle.mayLeaveBypass = false)

/-- Start-up completes at local tick 256, the node leaves BYPASS outside an upstream frame, and outside BYPASS the
IDLE symbols sent raise the gap count to 2; in SENDING, with the gap complete, none is sent (R17, R37, R38). The record of Downstream-Out and the mark of start-up are
the model's (log entries 10, 20). -/
def Obligations.StartUpLeavesBypassAndIdles : Prop :=
  ∀ (s : State), s.resetn = true →
    (s.tx.state = .bypass → s.tx.startUpDone = false → s.time.localTicks = 256 →
      exec .startUpCompletion s = .next { s with tx.startUpDone := true })
    ∧ (s.tx.state = .bypass → s.tx.startUpDone = true → s.link.rx ≠ .inSync ∨ s.link.bracketOpen = false →
      exec .leaveBypass s = .next { s with tx.state := .idleFill, tx.gap := 0 })
    ∧ (s.tx.state = .idleFill ∨ s.tx.state.isSending = true ∧ s.tx.gap < 2 →
      exec .idleSymbolSent s = .next { s with
        tx.gap := min (s.tx.gap + 1) 2
        downstream := s.downstream ++ [.symbol .idle] })
    ∧ (s.tx.state.isSending = true → 2 ≤ s.tx.gap → exec .idleSymbolSent s = .next s)

/-! ## The Link Receiver -/

/-- In HUNTING and NO-SIGNAL an IDLE raises the IDLE run and any other symbol clears it; the sixteenth IDLE gives
IN-SYNC, stops the link timer and brings a link that was DOWN to UP with a LINK-CHANGE record; in BYPASS the symbol is
sent on as well (R2, R3, R5, R6, R16). The IDLE run of 16 in IN-SYNC and the record of Downstream-Out are the model's
choices (log entries 10, 15). -/
def Obligations.SixteenIdlesGiveSync : Prop :=
  ∀ (s : State) (sym : Symbol), s.resetn = true → s.mayLeaveBypass = false → s.link.rx ≠ .inSync →
    let m (x : Symbol) : State :=
      if s.tx.state = .bypass then { s with downstream := s.downstream ++ [.symbol x] } else s
    let run := match s.link.rx with
      | .noSignal => 0
      | .hunting | .inSync => s.link.idleRun
    let synced : LinkReceiver := { s.link with
      rx := .inSync, silence := 0, idleRun := 16, errorRun := 0, validRun := 0, assembly := .outside
      linkTimer := none }
    (sym ≠ .idle →
      exec sym.command s = .next { m sym with link := { s.link with rx := .hunting, silence := 0, idleRun := 0 } })
    ∧ (run < 15 →
      exec .idle s = .next { m .idle with link := { s.link with rx := .hunting, silence := 0, idleRun := run + 1 } })
    ∧ (15 ≤ run → s.link.link = .up → exec .idle s = .next { m .idle with link := synced })
    ∧ (15 ≤ run → s.link.link = .down →
      exec .idle s = .next (({ m .idle with link := { synced with link := .up } }).report (.linkChange .up)))

/-- In BYPASS a received symbol is sent on as received; no frame is assembled, claimed or counted, and nothing else is
sent. In IN-SYNC the runs, the frame bracket and the departure to HUNTING with its link timer go on as outside BYPASS
(out of IN-SYNC they are those of SixteenIdlesGiveSync); while RESETn is low a symbol is sent on and no more. A node
that may leave BYPASS has left it before a symbol, a frame or an IDLE sent (R2, R4, R5, R16, R17, R37). The model's:
that forced leaving (log entry 7, DEDUCED), the count of silent ticks that a symbol clears (log entry 8), the record of
Downstream-Out (log entry 10), the error run kept in HUNTING (log entry 15, DESIGN CHOICE), that a symbol is only sent
on while RESETn is low (log entry 18), and the mark startUpDone that says start-up has completed (log entry 20). -/
def Obligations.BypassMirrorsSymbols : Prop :=
  ∀ (s : State) (sym : Symbol), s.tx.state = .bypass →
    let m : State := { s with downstream := s.downstream ++ [.symbol sym] }
    let may := s.resetn = true ∧ s.tx.startUpDone = true ∧ (s.link.rx ≠ .inSync ∨ s.link.bracketOpen = false)
    let left : State := { s with tx.state := .idleFill, tx.gap := 0 }
    let bracket := match sym with
      | .openSymbol => true
      | .closeSymbol | .abort => false
      | .data _ | .idle | .invalid => s.link.bracketOpen
    (¬may → s.link.assembly = .outside →
      ∃ t : State, exec sym.command s = .next t ∧ t.downstream = s.downstream ++ [.symbol sym]
        ∧ t.link.assembly = .outside ∧ t.pool = s.pool ∧ t.rx = s.rx ∧ t.tx = s.tx ∧ t.table = s.table
        ∧ t.time = s.time ∧ t.steps = s.steps ∧ t.out = s.out ∧ t.run = s.run ∧ t.cmd = s.cmd)
    ∧ (s.resetn = false → exec sym.command s = .next m)
    ∧ (s.resetn = true → ¬may → s.link.rx = .inSync → sym ≠ .invalid →
      exec sym.command s = .next { m with link := s.link.afterValid 1 s.link.assembly bracket })
    ∧ (s.resetn = true → ¬may → s.link.rx = .inSync → sym = .invalid → s.link.errorRun < 3 →
      exec sym.command s = .next { m with
        link := { s.link with silence := 0, errorRun := s.link.errorRun + 1, validRun := 0 } })
    ∧ (s.resetn = true → ¬may → s.link.rx = .inSync → sym = .invalid → 3 ≤ s.link.errorRun →
      exec sym.command s = .next { m with link := { s.link with
        rx := .hunting, silence := 0, idleRun := 0, validRun := 0, assembly := .outside, bracketOpen := false
        linkTimer := if s.link.link = .up then some s.link.linkTimeout else s.link.linkTimer } })
    ∧ (may → exec sym.command s = exec sym.command left ∧ exec .idleSymbolSent s = exec .idleSymbolSent left
      ∧ ∀ f : Frame, s.receiveFrame f = left.receiveFrame f)
    ∧ (¬may → exec .idleSymbolSent s = .next s)

/-- An OPEN claims a FREE buffer; with none FREE it is refused with a NO-BUFFER record; inside a frame it ends that
frame with reason FRAMING and begins the new one in the same buffer. An IDLE is passed over. A data octet is stored
while fewer than 105 are; the 106th ends the frame with reason OVERSIZE; outside a frame and while skipping it is
ignored (R4, R10, R11, R13, R14, R19). -/
def Obligations.OpenClaimsAndOctetsAreStored : Prop :=
  (∀ (s : State), s.Assembles →
      (s.link.assembly.receiving = 0 → 0 < s.pool.free →
        exec .openSymbol s = .next { s with
          link := s.link.afterValid 1 (.assembling []) true
          pool.free := s.pool.free - 1 })
      ∧ (s.link.assembly.receiving = 0 → s.pool.free = 0 →
        exec .openSymbol s = .next (({ s with
          link := s.link.afterValid 1 .skipping true
          rx.noBufferDrops := s.rx.noBufferDrops + 1 }).report .noBuffer))
      ∧ (s.link.assembly.receiving = 1 →
        exec .openSymbol s = .next (({ s with
          link := s.link.afterValid 1 (.assembling []) true
          rx.frameErrors := s.rx.frameErrors + 1 }).report (.frameError .framing)))
      ∧ exec .idle s = .next { s with link := s.link.afterValid 1 s.link.assembly s.link.bracketOpen })
  ∧ (∀ (s : State) (o : Octet) (octets : List Octet), s.Assembles →
      (s.link.assembly = .assembling octets → octets.length < 105 →
        exec (.dataOctet o) s = .next { s with
          link := s.link.afterValid 1 (.assembling (octets ++ [o])) s.link.bracketOpen })
      ∧ (s.link.assembly = .assembling octets → 105 ≤ octets.length →
        exec (.dataOctet o) s = .next (({ s with
          link := s.link.afterValid 1 .skipping s.link.bracketOpen
          pool.free := s.pool.free + 1
          rx.frameErrors := s.rx.frameErrors + 1 }).report (.frameError .oversize)))
      ∧ (s.link.assembly.receiving = 0 →
        exec (.dataOctet o) s = .next { s with link := s.link.afterValid 1 s.link.assembly s.link.bracketOpen }))

/-- ABORT and a failing CLOSE end a frame with their reasons and return its buffer; either ends a skip. The CLOSE of a
frame whose octets carry a right LEN and CHECK hands the frame to the Classifier, at that CLOSE (R10, R12 to R14). -/
def Obligations.AbortAndCloseEndAFrame : Prop :=
  (∀ (s : State) (octets : List Octet), s.Assembles →
      let dropped (reason : FrameFault) : State := ({ s with
        link := s.link.afterValid 1 .outside false
        pool.free := s.pool.free + 1
        rx.frameErrors := s.rx.frameErrors + 1 }).report (.frameError reason)
      (s.link.assembly = .assembling octets → exec .abort s = .next (dropped .abort))
      ∧ (s.link.assembly = .assembling octets →
        ¬(9 ≤ octets.length ∧ ∃ len ∈ octets[6]?, len.toNat ≤ 96 ∧ octets.length = len.toNat + 9) →
        exec .closeSymbol s = .next (dropped .length))
      ∧ (s.link.assembly = .assembling octets → lengthGood octets = true → crc octets ≠ 0 →
        exec .closeSymbol s = .next (dropped .check))
      ∧ (s.link.assembly.receiving = 0 → exec .abort s = .next { s with link := s.link.afterValid 1 .outside false })
      ∧ (s.link.assembly.receiving = 0 → exec .closeSymbol s = .next { s with link := s.link.afterValid 1 .outside false }))
  ∧ (∀ (s : State) (f : Frame), s.Assembles → f.payload.length ≤ 96 → s.link.assembly = .assembling f.onLink →
      exec .closeSymbol s = .next (({ s with
        link := s.link.afterValid 1 .outside false
        rx.framesGood := s.rx.framesGood + 1 }).classify f.received))

/-- An invalid symbol ends the frame with reason CODE, raises the error run and clears the valid run; the one that
brings the error run to 4 leaves IN-SYNC for HUNTING. Loss of activity, after two ticks without a symbol, enters
NO-SIGNAL with the runs cleared and ends a frame being assembled with reason LINK; before that, in NO-SIGNAL, and
while RESETn is low, it changes nothing. Leaving IN-SYNC starts the link timer while the link is UP (R2, R4, R5, R13,
R15). The error run kept in HUNTING, and a loss of activity that changes nothing, are the model's choices (log entries
8, 15). -/
def Obligations.SyncIsLostByDamageOrSilence : Prop :=
  (∀ (s : State), s.Assembles →
      let next := match s.link.assembly with
        | .outside => Assembly.outside
        | .assembling _ | .skipping => .skipping
      let left : State :=
        if s.link.errorRun < 3 then
          { s with link := { s.link with
            silence := 0, errorRun := s.link.errorRun + 1, validRun := 0, assembly := next } }
        else
          { s with link := { s.link with
            rx := .hunting, silence := 0, idleRun := 0, validRun := 0, assembly := .outside, bracketOpen := false
            linkTimer := if s.link.link = .up then some s.link.linkTimeout else s.link.linkTimer } }
      (s.link.assembly.receiving = 0 → exec .invalidSymbol s = .next left)
      ∧ (s.link.assembly.receiving = 1 →
        exec .invalidSymbol s = .next (({ left with
          pool.free := s.pool.free + 1
          rx.frameErrors := s.rx.frameErrors + 1 }).report (.frameError .code))))
  ∧ (∀ (s : State),
      let silent (timer : Option Nat) : LinkReceiver := { s.link with
        rx := .noSignal, idleRun := 0, errorRun := 0, validRun := 0, assembly := .outside, bracketOpen := false
        linkTimer := timer }
      let started := if s.link.link = .up then some s.link.linkTimeout else s.link.linkTimer
      (s.resetn = false ∨ s.link.rx = .noSignal ∨ s.link.silence < 2 → exec .lossOfActivity s = .next s)
      ∧ (s.resetn = true → 2 ≤ s.link.silence → s.link.rx = .hunting →
        exec .lossOfActivity s = .next { s with link := silent s.link.linkTimer })
      ∧ (s.resetn = true → 2 ≤ s.link.silence → s.link.rx = .inSync → s.link.assembly.receiving = 0 →
        exec .lossOfActivity s = .next { s with link := silent started })
      ∧ (s.resetn = true → 2 ≤ s.link.silence → s.link.rx = .inSync → s.link.assembly.receiving = 1 →
        exec .lossOfActivity s = .next (({ s with
          link := silent started
          pool.free := s.pool.free + 1
          rx.frameErrors := s.rx.frameErrors + 1 }).report (.frameError .link))))

/-- The link timer expires: the link goes DOWN with a LINK-CHANGE record; an ARMED node enters FAILSAFE with safe
transitions of all banks, its queue flushed with cause FAILSAFE, and a RUN-CHANGE record with cause LINK and the
number removed (R5, R6, R101, R134). -/
def Obligations.LinkTimerExpiryTakesTheLinkDown : Prop :=
  ∀ (s : State), s.link.linkTimer = some 0 →
    let down : State := ({ s with link := { s.link with link := .down, linkTimer := none } }).report (.linkChange .down)
    let n := s.steps.held.length
    let stopped : State := { down with
      run := .failsafe
      out := { bankA := s.out.bankA.safeTransition, bankB := s.out.bankB.safeTransition, bankC := s.out.bankC.safeTransition }
      steps.held := []
      steps.counters.flushed := s.steps.counters.flushed + BitVec.ofNat 32 n }
    (s.run ≠ .armed → exec .linkTimerExpiry s = .next down)
    ∧ (s.run = .armed → n = 0 →
      exec .linkTimerExpiry s = .next (stopped.report (.runChange .link .armed .failsafe 0)))
    ∧ (s.run = .armed → n ≠ 0 →
      exec .linkTimerExpiry s
        = .next ((stopped.report (.flushed .failsafe n)).report (.runChange .link .armed .failsafe n)))

/-! ## Frames -/

/-- The check sequence is the register of R9, run bit by bit: FFFFH before the first octet, each octet from its most
significant bit, polynomial x^16 + x^12 + x^5 + 1, no final inversion. A frame goes out as its header, its payload and
that CHECK, high octet first; these octets pass the receiver's checks and read back as that frame, every field (R7, R9,
R12, Table 11.1). -/
def Obligations.FrameReadsBackFromItsOctets : Prop :=
  let shift (r : Word16) (bit : Bool) : Word16 :=
    if r.msb = bit then r <<< 1 else (r <<< 1) ^^^ BitVec.ofNat 16 (2 ^ 12 + 2 ^ 5 + 1)
  let bits (o : Octet) : List Bool :=
    [o.getLsbD 7, o.getLsbD 6, o.getLsbD 5, o.getLsbD 4, o.getLsbD 3, o.getLsbD 2, o.getLsbD 1, o.getLsbD 0]
  let register (octets : List Octet) : Word16 := (octets.flatMap bits).foldl shift 0xFFFF
  (∀ octets : List Octet, crc octets = register octets)
  ∧ (∀ f : Frame,
      let sent := [f.dest, f.src, f.kind, f.hops] ++ octets16 f.seq ++ [BitVec.ofNat 8 f.payload.length] ++ f.payload
      f.onLink = sent ++ octets16 (register sent))
  ∧ (∀ f : Frame, f.payload.length ≤ 96 →
      lengthGood f.onLink = true ∧ crc f.onLink = 0 ∧ bufferOf f.onLink = some f.received)

/-- A whole good frame that arrives claims a buffer, is counted, and is classified at its CLOSE with the contents it
was sent with (R10, R11, R12, R21, R35). In every state the arrival of a frame is the run of its symbols, OPEN, its
octets and CLOSE, and every row named after a frame is the arrival of that frame, with the KIND, command code and
payload of chapter 11 (Tables 1.4, 11.2, 11.5). That one command is the whole frame is the model's reading (log entry
11). -/
def Obligations.WholeFrameIsClassified : Prop :=
  (∀ (s : State) (f : Frame), s.ReadyForFrame → f.payload.length ≤ 96 →
      s.receiveFrame f = (s.atClose f).classify f.received)
  ∧ (∀ (s : State) (f : Frame),
      Runs ([.openSymbol] ++ f.onLink.map .dataOctet ++ [.closeSymbol]) s (s.receiveFrame f))
  ∧ (∀ (s : State) (h : Header) (a b c : Octet) (p q : Word16) (w : Word32) (payload : List Octet),
      let arrives (i : Instr) (kind : Octet) (octets : List Octet) : Prop := exec i s = .next (s.receiveFrame
        { dest := h.dest, src := h.src, kind, hops := h.hops, seq := h.seq, payload := octets })
      arrives (.timeMark h w a b c) 0x51 (octets32 w ++ [a, b, c])
      ∧ arrives (.schedule h payload) 0x52 payload
      ∧ (h.dest = 255 → arrives (.broadcastDisarm h.src h.hops h.seq) 0x53 [0x08])
      ∧ arrives (.ident h) 0x53 [0x01]
      ∧ arrives (.status h a) 0x53 [0x02, a]
      ∧ arrives (.addrGet h a) 0x53 [0x03, a]
      ∧ arrives (.addrSet h a b c) 0x53 [0x04, a, b, c]
      ∧ arrives (.configGet h a) 0x53 [0x05, a]
      ∧ arrives (.configSet h a w) 0x53 ([0x06, a] ++ octets32 w)
      ∧ arrives (.arm h) 0x53 [0x07]
      ∧ arrives (.disarm h) 0x53 [0x08]
      ∧ arrives (.lineSetStatic h a p q) 0x53 ([0x09, a, 0] ++ octets16 p ++ octets16 q)
      ∧ arrives (.lineSetCadence h a p q) 0x53 ([0x09, a, 1] ++ octets16 p ++ octets16 q)
      ∧ arrives (.cancel h p) 0x53 ([0x0A] ++ octets16 p)
      ∧ arrives (.flush h a) 0x53 [0x0B, a]
      ∧ arrives (.queuePeek h a b) 0x53 [0x0C, a, b]
      ∧ arrives (.eventFetch h a) 0x53 [0x0D, a]
      ∧ arrives (.eventAck h p) 0x53 ([0x0E] ++ octets16 p)
      ∧ arrives (.resetSoft h) 0x53 [0x0F]
      ∧ arrives (.resetFull h) 0x53 [0x10])

/-- Stripping and plain repetition: the node's own frame is discarded with a RETURNED record; a frame to the head, or
to an address no entry holds, is repeated with HOPS less one, a time mark with HOPS TAKEN and, while the attention
condition holds, ATTENTION raised by one up to 255, and a new CHECK; with HOPS 0 it is discarded and counted (R21 to
R23, R30 to R32, R34). -/
def Obligations.ForeignFramesAreRepeated : Prop :=
  ∀ (s : State) (f : Frame), s.ReadyForFrame → f.payload.length ≤ 96 →
    let t := s.atClose f
    let up (o : Octet) : Octet := if o = 255 then 255 else o + 1
    let payload := match f.kindOf, f.payload with
      | .timeMark, [m3, m2, m1, m0, epoch, hopsTaken, attention] =>
        [m3, m2, m1, m0, epoch, up hopsTaken, if s.events.attention then up attention else attention]
      | _, p => p
    let sent : Frame := { f with hops := f.hops - 1, payload }
    (s.table.unitAddress = some f.src →
      s.receiveFrame f = ({ t with pool.free := s.pool.free, rx.returned := s.rx.returned + 1 }).report
        (.returned f.dest f.kind))
    ∧ (s.table.unitAddress ≠ some f.src → f.dest = 0 ∨ s.table.matching f.dest = none → f.hops ≠ 0 →
      s.receiveFrame f = ({ t with rx.framesRepeated := s.rx.framesRepeated + 1 }).joinRepeat
        { frame := sent, check := sent.checkOf, checkCurrent := true, resetReply := false })
    ∧ (s.table.unitAddress ≠ some f.src → f.dest = 0 ∨ s.table.matching f.dest = none → f.hops = 0 →
      s.receiveFrame f = { t with pool.free := s.pool.free, rx.expired := s.rx.expired + 1 })

/-- An address matches the one enabled entry that holds it, and none when no entry does; the KIND octet names the
kind, and a time mark has 7 octets of payload (R8, R21, R47, R50). Frames to an entry of the node that it does not
consume: at the unit address they are discarded, a time mark or a schedule as filtered and a REPLY or an unknown kind
with an UNEXPECTED-FRAME record; through a group or broadcast entry they are repeated, a command with its
UNEXPECTED-FRAME record (R25 to R27, R29, R51). -/
def Obligations.RefusedFramesAreDiscardedOrRepeated : Prop :=
  (∀ (t : AddressTable) (d : Octet) (i : Fin 9), t.Law →
    t.unitAddress = t.entries[0].address
    ∧ (t.matching d = some i ↔ t.entries[i].address = some d)
    ∧ (t.matching d = none ↔ ∀ j : Fin 9, t.entries[j].address ≠ some d)
    ∧ t.matching 0 = none)
  ∧ (∀ f : Frame, f.kindOf =
      if f.kind = 0x51 ∧ f.payload.length = 7 then .timeMark
      else if f.kind = 0x52 then .schedule
      else if f.kind = 0x53 then .command
      else if f.kind = 0x54 then .reply
      else .unknown)
  ∧ ∀ (s : State) (f : Frame) (i : Fin 9), s.ReadyForFrame → f.payload.length ≤ 96 →
    s.table.unitAddress ≠ some f.src → f.dest ≠ 0 → s.table.matching f.dest = some i →
    let e := s.table.entries[i]
    let t := s.atClose f
    let refused := f.kindOf = .timeMark ∧ e.acceptMark = false ∨ f.kindOf = .schedule ∧ e.acceptSchedule = false
    let strange := f.kindOf = .reply ∨ f.kindOf = .unknown
    (i = 0 → refused → s.receiveFrame f = { t with pool.free := s.pool.free, rx.filtered := s.rx.filtered + 1 })
    ∧ (i = 0 → strange →
      s.receiveFrame f = ({ t with pool.free := s.pool.free }).report (.unexpectedFrame .unit f.dest f.kind 0))
    ∧ (i ≠ 0 → refused → s.receiveFrame f = ({ t with rx.filtered := s.rx.filtered + 1 }).repeatFrame f.received)
    ∧ (i ≠ 0 → strange → s.receiveFrame f = t.repeatFrame f.received)
    ∧ (i ≠ 0 → i ≠ 8 → f.kindOf = .command →
      s.receiveFrame f
        = (t.report (.unexpectedFrame .group f.dest f.kind (f.payload.headD 0))).repeatFrame f.received)
    ∧ (i = 8 → f.kindOf = .command → f.payload ≠ [0x08] →
      s.receiveFrame f
        = (t.report (.unexpectedFrame .broadcast f.dest f.kind (f.payload.headD 0))).repeatFrame f.received)

/-! ## Network time -/

/-- TIME_MARK: through an entry that accepts MARK the Timebase takes the mark with the fields as received; then the
frame is discarded at the unit address, and otherwise repeated, with the attention condition as it stands after the
taking (R24, R26, R28, R33, R66). -/
def Obligations.TimeMarkIsTaken : Prop :=
  ∀ (s : State) (h : Header) (i : Fin 9) (markTime : Word32) (epoch hopsTaken attention : Octet),
    s.Reaches h i → s.table.entries[i].acceptMark = true →
    let f : Frame := { dest := h.dest, src := h.src, kind := 0x51, hops := h.hops, seq := h.seq,
                       payload := octets32 markTime ++ [epoch, hopsTaken, attention] }
    exec (.timeMark h markTime epoch hopsTaken attention) s
      = .next (((s.taken f).takeMark markTime epoch hopsTaken).passedOn i f)

/-- The marks that do not step network time: agreeing ones count in ACQUIRING and give LOCKED at the third; in LOCKED
and from HOLDOVER the offset replaces the residue; the first outlier is only counted. The mark timer is armed each
time (R66, R69, R70, R72, R75, R79). -/
def Obligations.AgreeingMarksSlewTime : Prop :=
  ∀ (s : State) (markTime : Word32) (epoch hopsTaken : Octet), s.time.epoch = some epoch →
    let expected := markTime + BitVec.ofNat 32 (hopsTaken.toNat * s.time.hopDelay)
    let offset := (expected - s.time.networkTime).toInt
    let armed : Timebase := { s.time with markTimer := some s.time.markTimeout }
    let locked : State := { s with time := { armed with
      sync := .locked, goodMarks := 3, outliers := 0, residue := offset, holdoverTimer := none } }
    (s.time.sync = .acquiring → offset.natAbs ≤ s.time.lockWindow → s.time.goodMarks < 2 →
      s.takeMark markTime epoch hopsTaken = { s with time := { armed with goodMarks := s.time.goodMarks + 1 } })
    ∧ (s.time.sync = .acquiring → offset.natAbs ≤ s.time.lockWindow → 2 ≤ s.time.goodMarks →
      s.takeMark markTime epoch hopsTaken = locked.report (.syncChange .acquiring .locked))
    ∧ (s.time.sync = .locked → offset.natAbs ≤ s.time.slewLimit → s.takeMark markTime epoch hopsTaken = locked)
    ∧ (s.time.sync = .locked → s.time.slewLimit < offset.natAbs → s.time.outliers = 0 →
      s.takeMark markTime epoch hopsTaken = { s with time := { armed with outliers := 1 } })
    ∧ (s.time.sync = .holdover → offset.natAbs ≤ s.time.slewLimit →
      s.takeMark markTime epoch hopsTaken = locked.report (.syncChange .holdover .locked))

/-- The marks that step network time, by the rows of Table 5.2: network time becomes the expected one, the residue 0,
the epoch the mark's; TIME-STEPPED (but not from UNSYNCED) comes before SYNC-CHANGE (where the state changes), then
the Step Queue takes the signed amount, and the mark timer is armed (R68 to R75). -/
def Obligations.DisagreeingMarksStepTime : Prop :=
  ∀ (s : State) (markTime : Word32) (epoch hopsTaken : Octet),
    let t := s.time
    let expected := markTime + BitVec.ofNat 32 (hopsTaken.toNat * t.hopDelay)
    let amount := expected - t.networkTime
    let far (limit : Nat) := limit < amount.toInt.natAbs
    let stepped (entered : SyncState) (good : Nat) : State := { s with time := { t with
      networkTime := expected, sync := entered, epoch := some epoch, goodMarks := good, outliers := 0, residue := 0,
      holdoverTimer := none } }
    let finish (u : State) : State :=
      let q := u.queueTimeStep amount.toInt
      { q with time.markTimer := some t.markTimeout }
    let noted (u : State) : State := u.report (.timeStepped amount (t.epoch != some epoch))
    let taken := s.takeMark markTime epoch hopsTaken
    (t.sync = .unsynced → taken = finish ((stepped .acquiring 1).report (.syncChange .unsynced .acquiring)))
    ∧ (t.sync = .acquiring → t.epoch ≠ some epoch ∨ far t.lockWindow → taken = finish (noted (stepped .acquiring 1)))
    ∧ (t.sync = .locked → t.epoch ≠ some epoch → taken = finish (noted (stepped .locked 3)))
    ∧ (t.sync = .locked → t.epoch = some epoch → far t.slewLimit → t.outliers ≠ 0 →
      taken = finish ((noted (stepped .acquiring 1)).report (.syncChange .locked .acquiring)))
    ∧ (t.sync = .holdover → t.epoch ≠ some epoch ∨ far t.slewLimit →
      taken = finish ((noted (stepped .acquiring 1)).report (.syncChange .holdover .acquiring)))

/-- The mark timer takes ACQUIRING to UNSYNCED and LOCKED to HOLDOVER; the holdover timer takes HOLDOVER to UNSYNCED.
Entry to UNSYNCED clears the Timebase but for network time, flushes the queue with cause SYNC, and then takes an ARMED
node to FAILSAFE with safe transitions of all banks and a RUN-CHANGE of count 0 (R75, R76, R78, R79, R134). -/
def Obligations.SyncTimersEndSync : Prop :=
  ∀ (s : State),
    let n := s.steps.held.length
    let lost : State := ({ s with time := { s.time with
      sync := .unsynced, epoch := none, goodMarks := 0, outliers := 0, residue := 0, markTimer := none,
      holdoverTimer := none } }).report (.syncChange s.time.sync .unsynced)
    let emptied : State := { lost with
      steps.held := [], steps.counters.flushed := s.steps.counters.flushed + BitVec.ofNat 32 n }
    let flushed : State := if n = 0 then emptied else emptied.report (.flushed .sync n)
    let unsynced : State :=
      if s.run = .armed then
        ({ flushed with
          run := .failsafe
          out := { bankA := s.out.bankA.safeTransition, bankB := s.out.bankB.safeTransition,
                   bankC := s.out.bankC.safeTransition } }).report (.runChange .sync .armed .failsafe 0)
      else flushed
    (s.time.markTimer = some 0 → s.time.sync = .acquiring → exec .markTimerExpiry s = .next unsynced)
    ∧ (s.time.markTimer = some 0 → s.time.sync = .locked →
      exec .markTimerExpiry s = .next (({ s with time := { s.time with
        sync := .holdover, outliers := 0, markTimer := none
        holdoverTimer := some s.time.holdoverLimit } }).report (.syncChange .locked .holdover)))
    ∧ (s.time.holdoverTimer = some 0 → s.time.sync = .holdover → exec .holdoverTimerExpiry s = .next unsynced)

/-! ## The Step Queue -/

/-- A payload of 1 to 8 step records reads back as those steps, in order, every field. A payload reads as some steps
exactly when it is COUNT, 1 to 8, and that many well-formed records and nothing more, a present width of 0 giving a
step without one: any other COUNT, length, reserved control bit or bank field 3 is malformed and reads as none (R86,
R87, R177, Tables 11.3 and 11.4). The whole value octet is kept by the model's reading (log entry 14). -/
def Obligations.ScheduleReadsBackFromItsOctets : Prop :=
  (∀ (source : Fin 9) (sts : List Step), 1 ≤ sts.length → sts.length ≤ 8 →
      (∀ st ∈ sts, st.source = source ∧ st.pulse ≠ some 0) → readSchedule source (schedulePayload sts) = some sts)
  ∧ (∀ (source : Fin 9) (payload : List Octet) (sts : List Step),
      readSchedule source payload = some sts ↔
        1 ≤ sts.length ∧ sts.length ≤ 8
          ∧ ∃ records : List (List Octet), payload = BitVec.ofNat 8 sts.length :: records.flatten
            ∧ List.Forall₂ (IsRecordOf source) records sts)

/-- SCHEDULE: through an entry that accepts SCHEDULE a frame whose SEQ is new sets the entry's record and has its
steps offered in order, or is reported as BAD-SCHEDULE; a duplicate is counted and goes no further. Then the frame is
discarded at the unit address, and otherwise repeated (R24, R26, R28, R53, R54, R86, R87). -/
def Obligations.ScheduleIsCheckedThenOffered : Prop :=
  ∀ (s : State) (h : Header) (i : Fin 9) (payload : List Octet),
    s.Reaches h i → s.table.entries[i].acceptSchedule = true → payload.length ≤ 96 →
    let f : Frame := { dest := h.dest, src := h.src, kind := 0x52, hops := h.hops, seq := h.seq, payload }
    let e := s.table.entries[i]
    let new := ∀ l ∈ e.lastSeq, 1 ≤ (h.seq - l).toNat ∧ (h.seq - l).toNat ≤ 32767
    let t : State := { s.taken f with
      table := { s.table with entries := s.table.entries.set i { e with lastSeq := some h.seq } } }
    (new → ∀ sts ∈ readSchedule i payload,
      exec (.schedule h payload) s = .next ((sts.foldl State.offerStep t).passedOn i f))
    ∧ (new → readSchedule i payload = none →
      exec (.schedule h payload) s = .next ((t.report (.badSchedule h.seq)).passedOn i f))
    ∧ (¬new →
      exec (.schedule h payload) s
        = .next (({ s.taken f with rx.duplicateSchedules := s.rx.duplicateSchedules + 1 }).passedOn i f))

/-- The seven acceptance checks in their order: the first that fails rejects the step with its reason and changes
nothing else (R88 to R90). -/
def Obligations.OfferedStepsAreCheckedInOrder : Prop :=
  ∀ (s : State) (st : Step),
    let now := s.time.networkTime
    let ahead := (st.due - now).toNat
    let after := 1 ≤ ahead ∧ ahead ≤ 2147483647
    let late := (now - st.due).toNat
    let bankBit := match st.bank with
      | .a => 0
      | .b => 1
      | .c => 2
    let noTime := s.time.sync ≠ .locked ∧ s.time.sync ≠ .holdover
    let noBank := s.table.entries[st.source].bankMask.getLsbD bankBit = false
    let tooFar := after ∧ s.steps.acceptWindow < ahead
    let tooLate := ¬after ∧ (st.policy = .drop ∨ s.steps.lateLimit < late)
    let rejected (r : Rejection) : State := s.report (.stepRejected r st.tag)
    s.offerStep st =
      if s.run = .failsafe then rejected .failsafe
      else if noTime then rejected .noTime
      else if noBank then rejected .bank
      else if st.mask = 0 then rejected .mask
      else if tooFar then rejected .tooFar
      else if tooLate then rejected .tooLate
      else if 64 ≤ s.steps.held.length then rejected .full
      else s.acceptStep st

/-- An accepted step is counted; one that lies ahead is inserted behind every held step due at or before it, in a
queue in order of due time; a late one is applied at once in ARMED and suppressed otherwise (R84, R91, R92). -/
def Obligations.AcceptedStepsTakeTheirPlace : Prop :=
  ∀ (s : State) (st : Step),
    let counted : State := { s with steps.counters.accepted := s.steps.counters.accepted + 1 }
    let late := (s.time.networkTime - st.due).toNat
    let b := s.out.bank st.bank
    (isAfter st.due s.time.networkTime = true → ∀ before behind : List Step, s.steps.held = before ++ behind →
      (∀ x ∈ before, isAfter x.due st.due = false) → (∀ x ∈ behind, isAfter x.due st.due = true) →
      s.acceptStep st = { counted with steps.held := before ++ [st] ++ behind })
    ∧ (isAfter st.due s.time.networkTime = false → s.run = .armed →
      s.acceptStep st = ({ counted with
        out := s.out.setBank st.bank (b.applyStep { value := st.value, mask := st.mask, mode := st.mode, pulse := st.pulse })
        steps.counters.lateApplied := s.steps.counters.lateApplied + 1 }).report (.lateApplied st.tag late))
    ∧ (isAfter st.due s.time.networkTime = false → s.run ≠ .armed →
      s.acceptStep st
        = ({ counted with steps.counters.suppressed := s.steps.counters.suppressed + 1 }).report .suppressed)

/-- The head step whose due time is not after network time leaves the queue: applied and counted as applied in ARMED,
suppressed otherwise (R93, R94). -/
def Obligations.DueStepsAreAppliedOrSuppressed : Prop :=
  ∀ (s : State) (st : Step) (rest : List Step),
    s.steps.held = st :: rest → isAfter st.due s.time.networkTime = false →
    let b := s.out.bank st.bank
    (s.run = .armed → exec .dueExpiry s = .next { s with
      steps.held := rest
      steps.counters.applied := s.steps.counters.applied + 1
      out := s.out.setBank st.bank
        (b.applyStep { value := st.value, mask := st.mask, mode := st.mode, pulse := st.pulse }) })
    ∧ (s.run ≠ .armed → exec .dueExpiry s = .next (({ s with
      steps.held := rest
      steps.counters.suppressed := s.steps.counters.suppressed + 1 }).report .suppressed))

/-- A forward step of network time takes the steps it has overtaken from the front, one after another: APPLY within
LATE-LIMIT is applied in ARMED and suppressed otherwise, everything else is late-dropped; a step still ahead, and an
amount of 0, end it. A backward step removes the held steps whose distance ahead, unsigned, is now greater than
ACCEPT-WINDOW, counts them as flushed, and reports FLUSHED with cause TIME when there was one; the others keep their
order (R96, R97, Table 6.3). -/
def Obligations.TimeStepsMoveTheQueue : Prop :=
  (∀ (s : State) (amount : Int) (st : Step) (rest : List Step),
      let late := (s.time.networkTime - st.due).toNat
      let left : State := { s with steps.held := rest }
      let b := s.out.bank st.bank
      let inTime := st.policy = .apply ∧ late ≤ s.steps.lateLimit
      (amount = 0 → s.queueTimeStep amount = s)
      ∧ (0 < amount → (∀ x ∈ s.steps.held.head?, isAfter x.due s.time.networkTime = true) → s.queueTimeStep amount = s)
      ∧ (0 < amount → s.steps.held = st :: rest → isAfter st.due s.time.networkTime = false →
        s.queueTimeStep amount = State.queueTimeStep
          (if inTime then
            if s.run = .armed then
              ({ left with
                out := s.out.setBank st.bank
                  (b.applyStep { value := st.value, mask := st.mask, mode := st.mode, pulse := st.pulse })
                steps.counters.lateApplied := s.steps.counters.lateApplied + 1 }).report (.lateApplied st.tag late)
            else ({ left with steps.counters.suppressed := s.steps.counters.suppressed + 1 }).report .suppressed
          else
            ({ left with steps.counters.lateDropped := s.steps.counters.lateDropped + 1 }).report (.lateDropped st.tag late))
          amount))
  ∧ (∀ (s : State) (amount : Int), amount < 0 →
      let far (st : Step) : Bool := decide (s.steps.acceptWindow < (st.due - s.time.networkTime).toNat)
      let n := (s.steps.held.filter far).length
      let t : State := { s with
        steps.held := s.steps.held.filter fun st => !far st
        steps.counters.flushed := s.steps.counters.flushed + BitVec.ofNat 32 n }
      (n = 0 → s.queueTimeStep amount = t) ∧ (n ≠ 0 → s.queueTimeStep amount = t.report (.flushed .time n)))

/-! ## Output Unit and Run Control -/

/-- What applying a step does to each line of its bank: outside the mask nothing; a line given 0 reads 0 at once,
waits no longer, and pulses when it read 1; a line given 1 that reads 1 stays; a line given 1 that reads 0 waits in
the make set under a pending transition, existing or created by BREAK-BEFORE-MAKE with a dead time, and is 1 at once
otherwise. An existing transition keeps its timer (R110 to R113). -/
def Obligations.AppliedStepActsLineByLine : Prop :=
  ∀ (b : Bank) (p : BankStep) (i : Fin 8),
    let c := b.applyStep p
    let inMake (k : Bank) : Bool := k.transition.any fun t => inSet t.makeSet i
    let waiting (k : Bank) : Option PendingPulse := k.transition.bind fun t => t.pulses[i]
    let pulseTo (revert : Bool) : LineMode := match p.pulse with
      | none => .static
      | some w => .pulse revert w.toNat p.mode
    let delayed := b.transition ≠ none ∨ p.mode = .breakBeforeMake ∧ b.deadTime ≠ 0
    let makes := p.mask &&& p.value &&& ~~~b.latch
    (inSet p.mask i = false →
      inSet c.latch i = inSet b.latch i ∧ c.lines[i] = b.lines[i] ∧ inMake c = inMake b ∧ waiting c = waiting b)
    ∧ (inSet p.mask i = true → inSet p.value i = false →
      inSet c.latch i = false ∧ inMake c = false ∧ waiting c = none
        ∧ c.lines[i] = if inSet b.latch i then pulseTo true else .static)
    ∧ (inSet p.mask i = true → inSet p.value i = true → inSet b.latch i = true →
      inSet c.latch i = true ∧ c.lines[i] = .static ∧ inMake c = inMake b ∧ waiting c = waiting b)
    ∧ (inSet p.mask i = true → inSet p.value i = true → inSet b.latch i = false → delayed →
      inSet c.latch i = false ∧ c.lines[i] = .static ∧ inMake c = true
        ∧ waiting c = p.pulse.map fun w => { width := w, mode := p.mode })
    ∧ (inSet p.mask i = true → inSet p.value i = true → inSet b.latch i = false → ¬delayed →
      inSet c.latch i = true ∧ c.lines[i] = pulseTo false ∧ inMake c = false ∧ waiting c = none)
    ∧ (c.transition.map (·.timer)
        = match b.transition with
          | some t => some t.timer
          | none =>
            if p.mode = .breakBeforeMake ∧ b.deadTime ≠ 0 ∧ makes ≠ 0 then some b.deadTime.toNat else none)
    ∧ c.safePattern = b.safePattern ∧ c.deadTime = b.deadTime

/-- A safe transition ends every pulse and cadence, discards the pending transition and takes the bank to its safe
pattern: lines the pattern gives 0 read 0 at once, and every other line reads 1 or waits the dead time (R123). -/
def Obligations.SafeTransitionReachesThePattern : Prop :=
  ∀ (b : Bank),
    let c := b.safeTransition
    c.AtSafePattern
      ∧ c.latch = (if b.deadTime = 0 then b.safePattern else b.latch &&& b.safePattern)
      ∧ c.safePattern = b.safePattern ∧ c.deadTime = b.deadTime
      ∧ ∀ t ∈ c.transition, t.timer = b.deadTime.toNat ∧ t.makeSet ≠ 0

/-- The expiry of a pending transition sets its make set and starts its pending pulses; the expiry of a pulse applies
the one-line step that reverts the line; the edge a cadence has reached sets the line at phase 0 and clears it at the
on-time. Each touches its own bank only. Two pulse reverts of one tick on different lines of a bank give the same
outcome in either order (R114, R116, R117, R119). The model's reading of how they do (log entry 22, DEDUCED): a revert
to 1 that creates a transition comes after the outstanding reverts to 1 under PLAIN, which are set at once. -/
def Obligations.OutputExpiriesActOnTheirBank : Prop :=
  ∀ (s : State) (id : BankId) (i : Fin 8) (t : Transition) (revert : Bool) (mode : TransitionMode)
    (period onTime phase : Nat) (plain : Octet),
    let b := s.out.bank id
    let reverts (j : Fin 8) := ∃ r m, b.lines[j] = .pulse r 0 m
    let opens := revert = true ∧ mode = .breakBeforeMake ∧ b.transition = none ∧ b.deadTime ≠ 0 ∧ inSet b.latch i = false
    let withBank (c : Bank) : State := { s with out := s.out.setBank id c }
    let bit : Octet := BitVec.twoPow 8 i
    (b.transition = some { t with timer := 0 } →
      exec (.deadTimeExpiry id) s = .next (withBank { b with
        latch := b.latch ||| t.makeSet
        transition := none
        lines := Vector.ofFn fun j =>
          match inSet t.makeSet j, t.pulses[j] with
          | true, some q => .pulse false q.width.toNat q.mode
          | _, _ => b.lines[j] }))
    ∧ (b.lines[i] = .pulse revert 0 mode → (∀ j : Fin 8, inSet plain j = true ↔ b.lines[j] = .pulse true 0 .plain) →
      let c := if opens then b.applyStep { value := plain, mask := plain, mode := .plain, pulse := none } else b
      exec (.pulseExpiry id i) s = .next (withBank
        (c.applyStep { value := if revert then bit else 0, mask := bit, mode, pulse := none })))
    ∧ (b.Law → ∀ j : Fin 8, i ≠ j → reverts i → reverts j →
      ∃ u v w : State, exec (.pulseExpiry id i) s = .next u ∧ exec (.pulseExpiry id j) u = .next w
        ∧ exec (.pulseExpiry id j) s = .next v ∧ exec (.pulseExpiry id i) v = .next w)
    ∧ (b.lines[i] = .cadence period onTime phase true →
      exec (.cadenceEdge id i) s = .next (withBank { b with
        latch := if phase = 0 then b.latch ||| bit else b.latch &&& ~~~bit
        lines := b.lines.set i (.cadence period onTime phase false) }))

/-- BROADCAST_DISARM through an enabled broadcast entry takes ARMED and FAILSAFE to SAFE, with safe transitions of all
banks from ARMED only and a RUN-CHANGE record; no reply is built, whatever is pending, and the frame is repeated (R27,
R33, R132, R133). -/
def Obligations.BroadcastDisarmReachesSafe : Prop :=
  ∀ (s : State) (src hops : Octet) (seq : Word16), s.Reaches { dest := 255, src, hops, seq } 8 →
    let f : Frame := { dest := 255, src, kind := 0x53, hops, seq, payload := [0x08] }
    let t := s.taken f
    let off : State := { t with
      run := .safe
      out := { bankA := s.out.bankA.safeTransition, bankB := s.out.bankB.safeTransition, bankC := s.out.bankC.safeTransition } }
    (s.run = .armed → exec (.broadcastDisarm src hops seq) s
      = .next ((off.report (.runChange .broadcastDisarm .armed .safe 0)).repeatFrame f.received))
    ∧ (s.run = .failsafe → exec (.broadcastDisarm src hops seq) s
      = .next ((({ t with run := .safe }).report (.runChange .broadcastDisarm .failsafe .safe 0)).repeatFrame f.received))
    ∧ (s.run = .safe → exec (.broadcastDisarm src hops seq) s = .next (t.repeatFrame f.received))

/-! ## The transmitter -/

/-- A buffer that joins a queue while a frame is being sent waits at the tail; in IDLE-FILL, where both queues are
empty, it is taken at once, with its CHECK computed if it is not current (R34, R37, R39, R40, R42). -/
def Obligations.JoiningBuffersWaitOrAreTaken : Prop :=
  ∀ (s : State) (b : Buffer),
    let ready : Buffer := if b.checkCurrent then b else { b with check := crc b.frame.octets, checkCurrent := true }
    (s.tx.state.isSending = true →
      s.joinRepeat b = { s with pool.repeatQueue := s.pool.repeatQueue ++ [b] }
        ∧ s.joinInsert b = { s with tx.insertQueue := s.tx.insertQueue ++ [b] })
    ∧ (s.tx.state = .idleFill → s.pool.repeatQueue = [] → s.tx.insertQueue = [] →
      s.joinRepeat b = { s with tx.state := .sending ready .fromRepeat, tx.credit := 0 }
        ∧ s.joinInsert b = { s with tx.state := .sending ready .fromInsert, tx.credit := 0 })

/-- A transmit completion: the missing IDLEs and the frame have gone out, the buffer is FREE, a frame from insert is
counted, the gap count is 0, and the arbiter chooses the next frame by the table of R40 (R38, R40, R44, R46). That a
completion supplies the IDLEs and symbols still missing is the model's choice (log entry 9). -/
def Obligations.CompletionFreesAndArbitrates : Prop :=
  ∀ (s : State) (straps : BitVec 6) (b r i : Buffer) (rs is : List Buffer) (tag : Tag),
    s.tx.state = .sending b tag → (b.resetReply && s.cmd.resetPending) = false →
    let done : State := { s with
      pool.free := s.pool.free + 1
      tx := { s.tx with
        state := .idleFill, gap := 0
        framesSent := if tag = .fromInsert then s.tx.framesSent + 1 else s.tx.framesSent }
      downstream := s.downstream ++ List.replicate (2 - s.tx.gap) (Sent.symbol .idle) ++ [.frame b.octets] }
    let ready (c : Buffer) : Buffer := if c.checkCurrent then c else { c with check := crc c.frame.octets, checkCurrent := true }
    let sendR (credit : Nat) : State :=
      { done with pool.repeatQueue := rs, tx.state := .sending (ready r) .fromRepeat, tx.credit := credit }
    let sendI : State := { done with tx.insertQueue := is, tx.state := .sending (ready i) .fromInsert, tx.credit := 0 }
    (s.pool.repeatQueue = [] → s.tx.insertQueue = [] →
      exec (.transmitCompletion straps) s = .next { done with tx.credit := 0 })
    ∧ (s.pool.repeatQueue = r :: rs → s.tx.insertQueue = [] → exec (.transmitCompletion straps) s = .next (sendR 0))
    ∧ (s.pool.repeatQueue = [] → s.tx.insertQueue = i :: is → exec (.transmitCompletion straps) s = .next sendI)
    ∧ (s.pool.repeatQueue = r :: rs → s.tx.insertQueue = i :: is → s.tx.credit < 2 →
      exec (.transmitCompletion straps) s = .next (sendR (s.tx.credit + 1)))
    ∧ (s.pool.repeatQueue = r :: rs → s.tx.insertQueue = i :: is → 2 ≤ s.tx.credit →
      exec (.transmitCompletion straps) s = .next sendI)

/-- The completion of the reply that a full reset waits for starts the full reset: every block at its pin-reset value
with RESETn high, the straps sampled, and one RESET record with reason COMMAND; the values are written out in freshNode
(R44, R45, R48, R49, R81, R85, R107, R162, R166, R175, Table 9.7). What enters the record of Downstream-Out, the count
of free orders, and the values freshNode names as the model's, are its choices (log entries 1, 6, 8, 9, 10, 15, 20).
-/
def Obligations.ResetReplyCompletionStartsFullReset : Prop :=
  ∀ (s : State) (straps : BitVec 6) (b : Buffer) (tag : Tag),
    s.tx.state = .sending b tag → b.resetReply = true → s.cmd.resetPending = true →
    exec (.transmitCompletion straps) s = .next { freshNode straps with
      resetn := true
      events := {
        records := [{ sequence := 0, kind := .reset, severity := .info, time := 0, timeValid := false, count := 1,
                      reason := some 2, tag := none, detail := none, fetched := false }]
        nextSeq := 1, overflow := 0, attentionLevel := .warning }
      downstream := s.downstream ++ List.replicate (2 - s.tx.gap) (Sent.symbol .idle) ++ [.frame b.octets]
      choices := s.choices
      pending := s.pending }

/-! ## The Event List -/

/-- A report is counted in the newest record when that is unfetched and of the same coalescing kind and reason;
otherwise it is appended while fewer than 16 records are held, with count 1, or for OVERFLOW the events lost, and
counted as overflow when the list is full (R164, R165, R168, R173). -/
def Obligations.ReportsCoalesceAppendOrOverflow : Prop :=
  ∀ (l : EventList) (now : Word32) (timeValid : Bool) (r : Report),
    let count := match r with
      | .overflow lost => lost
      | _ => 1
    let same (e : EventRecord) := r.kind.coalesces = true ∧ e.fetched = false ∧ e.kind = r.kind ∧ e.reason = r.reason
    (∀ e ∈ l.records.getLast?, same e →
      l.record now timeValid r
        = { l with records := l.records.dropLast ++ [{ e with count := min (e.count + 1) 65535 }] })
    ∧ ((∀ e ∈ l.records.getLast?, ¬same e) → l.records.length < 16 →
      l.record now timeValid r = { l with
        records := l.records ++ [{
          sequence := l.nextSeq, kind := r.kind, severity := r.severity, time := now, timeValid, count,
          reason := r.reason, tag := r.tag, detail := r.detail, fetched := false }]
        nextSeq := l.nextSeq + 1 })
    ∧ ((∀ e ∈ l.records.getLast?, ¬same e) → 16 ≤ l.records.length →
      l.record now timeValid r = { l with overflow := min (l.overflow + 1) 65535 })

/-! ## The management commands, executed (case 4 of R141) and answered

Each states the node after the command: its effects, and on top of them the reply built, recorded and queued
(State.answered, R41, R42, R145, R146). -/

/-- IDENT reports part number 2430, revision B, the kept strap value and the unit address. ADDR-GET reports an entry
0..8 as it stands, absent fields as zeros; a higher index is BAD-VALUE. CONFIG-GET reports the fifteen parameters by
number, each as it stands; any other number is BAD-VALUE. Nothing else changes (R60, R147, R149, R151, R179, Tables
11.6, 11.7 and 11.10). -/
def Obligations.ReadCommandsReportAndKeep : Prop :=
  (∀ (s : State) (h : Header), s.Executes h →
      let f := commandFrame h .ident []
      exec (.ident h) s
        = .next ((s.taken f).answered f 0x01 .done [0x09, 0x7E, 0x42, s.table.strapValue.zeroExtend 8, h.dest]))
  ∧ (∀ (s : State) (h : Header) (i : Fin 9) (index : Octet), s.Executes h →
      let f := commandFrame h .addrGet [index]
      let t := s.taken f
      let e := s.table.entries[i]
      let bit (b : Bool) (n : Nat) : Octet := if b then BitVec.twoPow 8 n else 0
      let flags := bit e.address.isSome 7 ||| bit e.lastSeq.isSome 6 ||| bit e.acceptSchedule 5 ||| bit e.acceptMark 4
        ||| e.bankMask.zeroExtend 8
      (index.toNat = i.val → exec (.addrGet h index) s
        = .next (t.answered f 0x03 .done ([index, e.address.getD 0, flags] ++ octets16 (e.lastSeq.getD 0))))
      ∧ (8 < index.toNat → exec (.addrGet h index) s = .next (t.answered f 0x03 .badValue [])))
  ∧ (∀ (s : State) (h : Header) (number : Octet), s.Executes h →
      let f := commandFrame h .configGet [number]
      let t := s.taken f
      let value : Option Nat := match number.toNat with
        | 1 => some s.steps.acceptWindow
        | 2 => some s.steps.lateLimit
        | 3 => some s.out.bankA.deadTime.toNat
        | 4 => some s.out.bankB.deadTime.toNat
        | 5 => some s.out.bankC.deadTime.toNat
        | 6 => some s.out.bankA.safePattern.toNat
        | 7 => some s.out.bankB.safePattern.toNat
        | 8 => some s.out.bankC.safePattern.toNat
        | 9 => some s.time.lockWindow
        | 10 => some s.time.slewLimit
        | 11 => some s.time.markTimeout
        | 12 => some s.time.holdoverLimit
        | 13 => some s.time.hopDelay
        | 14 => some s.link.linkTimeout
        | 15 => some (match s.events.attentionLevel with
          | .info => 0
          | .warning => 1
          | .alarm => 2)
        | _ => none
      (∀ v ∈ value, exec (.configGet h number) s
        = .next (t.answered f 0x05 .done (number :: octets32 (BitVec.ofNat 32 v))))
      ∧ (value = none → exec (.configGet h number) s = .next (t.answered f 0x05 .badValue [])))

/-- STATUS: pages 0, 1 and 2 as they stand, the command's own frame and buffer counted; any other page is BAD-VALUE;
nothing else changes (R36, R46, R82, R104, R127, R148, 11.4). That page 0 counts its own buffer before the arbiter
takes it is the model's reading (log entry 16). -/
def Obligations.StatusReportsThePage : Prop :=
  ∀ (s : State) (h : Header) (page : Octet), s.Executes h →
    let f := commandFrame h .status [page]
    let t := s.taken f
    let bank (b : Bank) : List Octet :=
      [b.latch, if b.transition = none then 0 else 1, (b.transition.map (·.makeSet)).getD 0]
    let flag (b : Bool) : Octet := if b then 1 else 0
    let insert := s.tx.insertQueue.length + 1
    let fromInsert := match s.tx.state with
      | .sending _ .fromInsert => 1
      | .sending _ .fromRepeat | .bypass | .idleFill => 0
    let page0 : List Octet :=
      [t.stateOctet, 2, s.time.epoch.getD 0, flag s.time.epoch.isSome] ++ octets32 s.time.networkTime
        ++ octets32 s.time.localTicks ++ octets32 (BitVec.ofInt 32 s.time.residue)
        ++ [octetOf s.time.goodMarks, octetOf s.time.outliers, octetOf s.steps.held.length]
        ++ bank s.out.bankA ++ bank s.out.bankB ++ bank s.out.bankC
        ++ [octetOf (s.pool.free - 1), octetOf s.pool.repeatQueue.length, octetOf insert, octetOf (insert + fromInsert),
            octetOf s.events.records.length]
        ++ octets16 (BitVec.ofNat 16 s.events.overflow)
    let c := s.rx
    let page1 : List Octet :=
      [c.framesGood + 1, c.framesRepeated, c.framesConsumed + 1, c.frameErrors, c.noBufferDrops, c.returned, c.expired,
        c.filtered, c.duplicateSchedules, s.tx.framesSent].flatMap octets32
    let k := s.steps.counters
    let page2 : List Octet :=
      [k.accepted, k.applied, k.lateApplied, k.lateDropped, k.suppressed, k.cancelled, k.flushed].flatMap octets32
    (page = 0 → exec (.status h page) s = .next (t.answered f 0x02 .done (0 :: page0)))
    ∧ (page = 1 → exec (.status h page) s = .next (t.answered f 0x02 .done (1 :: page1)))
    ∧ (page = 2 → exec (.status h page) s = .next (t.answered f 0x02 .done (2 :: page2)))
    ∧ (2 < page.toNat → exec (.status h page) s = .next (t.answered f 0x02 .badValue []))

/-- ADDR-SET: an entry that passes the checks is written whole and answered with the entry as written; the schedule
SEQ stays only with an unchanged address; a new unit address takes effect after the reply has been built. A value that
fails is BAD-VALUE, and an address held by another entry IN-USE, with the entry as it stood; an index above 8 is
BAD-VALUE without data (R53, R55 to R58, R150, R178). The entry as data of a BAD-VALUE for a reserved bit is the model's reading (log entry 17). -/
def Obligations.AddrSetWritesTheEntry : Prop :=
  ∀ (s : State) (h : Header) (i : Fin 9) (index address flags : Octet), s.Executes h →
    let named := index.toNat = i.val
    let f := commandFrame h .addrSet [index, address, flags]
    let t := s.taken f
    let old := s.table.entries[i]
    let enabled := flags.getLsbD 7
    let valid := flags.getLsbD 3 = false ∧ flags.getLsbD 6 = false ∧ (i = 0 → enabled = true)
      ∧ (enabled = true → addressAllowed i address)
    let inUse := enabled = true ∧ ∃ j : Fin 9, j ≠ i ∧ s.table.entries[j].address = some address
    let held := if enabled then some address else none
    let new : AddrEntry := {
      address := held, bankMask := flags.setWidth 3, acceptMark := flags.getLsbD 4, acceptSchedule := flags.getLsbD 5
      lastSeq := if held = old.address then old.lastSeq else none }
    let entry (e : AddrEntry) := e.replyOctets index
    let write (u : State) (e : AddrEntry) : State := { u with table := { u.table with entries := u.table.entries.set i e } }
    (8 < index.toNat → exec (.addrSet h index address flags) s = .next (t.answered f 0x04 .badValue []))
    ∧ (named → ¬valid → exec (.addrSet h index address flags) s = .next (t.answered f 0x04 .badValue (entry old)))
    ∧ (named → valid → inUse → exec (.addrSet h index address flags) s = .next (t.answered f 0x04 .inUse (entry old)))
    ∧ (named → valid → ¬inUse → i ≠ 0 →
      exec (.addrSet h index address flags) s = .next ((write t new).answered f 0x04 .done (entry new)))
    ∧ (named → valid → ¬inUse → i = 0 →
      exec (.addrSet h index address flags) s
        = .next (write ((write t { new with address := old.address }).answered f 0x04 .done (entry new)) new))

/-- CONFIG-SET: a value within its parameter's range is stored; a running timer is re-armed with it, and a safe
pattern written outside ARMED makes a safe transition of its bank; the reply gives the value as it now stands. Any
other number, or a value out of range, is BAD-VALUE and changes nothing (R5, R80, R106, R126, R152, R175, Tables 9.7
and 11.7). -/
def Obligations.ConfigSetStoresTheParameter : Prop :=
  ∀ (s : State) (h : Header) (number : Octet) (value : Word32), s.Executes h →
    let f := commandFrame h .configSet (number :: octets32 value)
    let t := s.taken f
    let v := value.toNat
    let o : Octet := value.setWidth 8
    let pattern (b : Bank) : Bank :=
      if s.run = .armed then { b with safePattern := o } else ({ b with safePattern := o }).safeTransition
    let within (low high : Nat) (u : State) : Option State := if low ≤ v ∧ v ≤ high then some u else none
    let stored : Option State := match number.toNat with
      | 1 => within 1 536870912 { t with steps.acceptWindow := v }
      | 2 => within 0 65535 { t with steps.lateLimit := v }
      | 3 => within 0 255 { t with out.bankA.deadTime := o }
      | 4 => within 0 255 { t with out.bankB.deadTime := o }
      | 5 => within 0 255 { t with out.bankC.deadTime := o }
      | 6 => within 0 255 { t with out.bankA := pattern s.out.bankA }
      | 7 => within 0 255 { t with out.bankB := pattern s.out.bankB }
      | 8 => within 0 255 { t with out.bankC := pattern s.out.bankC }
      | 9 => within 1 255 { t with time.lockWindow := v }
      | 10 => within 1 65535 { t with time.slewLimit := v }
      | 11 => within 1000 1000000
        { t with time.markTimeout := v, time.markTimer := s.time.markTimer.map fun _ => v }
      | 12 => within 1000 60000000
        { t with time.holdoverLimit := v, time.holdoverTimer := s.time.holdoverTimer.map fun _ => v }
      | 13 => within 0 65535 { t with time.hopDelay := v }
      | 14 => within 100 65535
        { t with link.linkTimeout := v, link.linkTimer := s.link.linkTimer.map fun _ => v }
      | 15 => within 0 2 { t with events.attentionLevel := if v = 0 then .info else if v = 1 then .warning else .alarm }
      | _ => none
    (∀ u ∈ stored, exec (.configSet h number value) s = .next (u.answered f 0x06 .done (number :: octets32 value)))
    ∧ (stored = none → exec (.configSet h number value) s = .next (t.answered f 0x06 .badValue []))

/-- ARM: SAFE or FAILSAFE becomes ARMED with a RUN-CHANGE record when LOCKED and UP, and is refused with WRONG-STATE
otherwise; in ARMED it is DONE without effect; banks and queue are not touched. DISARM: ARMED becomes SAFE with safe
transitions of all banks, FAILSAFE becomes SAFE with none, each with a RUN-CHANGE record; SAFE stays; the queue is not
flushed (R129, R130, R132, R139, R153, R154). -/
def Obligations.ArmAndDisarmChangeTheRunState : Prop :=
  (∀ (s : State) (h : Header), s.Executes h →
      let f := commandFrame h .arm []
      let t := s.taken f
      (s.run = .armed → exec (.arm h) s = .next (t.answered f 0x07 .done []))
      ∧ (s.run ≠ .armed → s.time.sync = .locked ∧ s.link.link = .up →
        exec (.arm h) s
          = .next ((({ t with run := .armed }).report (.runChange .arm s.run .armed 0)).answered f 0x07 .done []))
      ∧ (s.run ≠ .armed → s.time.sync ≠ .locked ∨ s.link.link = .down →
        exec (.arm h) s = .next (t.answered f 0x07 .wrongState [])))
  ∧ (∀ (s : State) (h : Header), s.Executes h →
      let f := commandFrame h .disarm []
      let t := s.taken f
      let out : OutputUnit :=
        { bankA := s.out.bankA.safeTransition, bankB := s.out.bankB.safeTransition, bankC := s.out.bankC.safeTransition }
      (s.run = .armed → exec (.disarm h) s
        = .next ((({ t with run := .safe, out := out }).report (.runChange .disarm .armed .safe 0)).answered f 0x08 .done []))
      ∧ (s.run = .failsafe → exec (.disarm h) s
        = .next ((({ t with run := .safe }).report (.runChange .disarm .failsafe .safe 0)).answered f 0x08 .done []))
      ∧ (s.run = .safe → exec (.disarm h) s = .next (t.answered f 0x08 .done [])))

/-- LINE-SET in ARMED: STATIC applies a one-line PLAIN step, CADENCE takes the line out of its make set into CADENCE
at phase 0 and sets it at once; the reply gives bank and latch. A line above 23, a STATIC value above 1 or a bad
period or on-time, and any mode but 0 and 1, is BAD-VALUE; outside ARMED it is WRONG-STATE (R120 to R122, R155,
R178). -/
def Obligations.LineSetGivesALineItsMode : Prop :=
  ∀ (s : State) (h : Header) (line mode : Octet) (p q : Word16) (id : BankId) (i : Fin 8), s.Executes h →
    let fm := commandFrame h .lineSet ([line, mode] ++ octets16 p ++ octets16 q)
    let fs := commandFrame h .lineSet ([line, 0] ++ octets16 p ++ octets16 q)
    let fc := commandFrame h .lineSet ([line, 1] ++ octets16 p ++ octets16 q)
    let code : Octet := match id with
      | .a => 0
      | .b => 1
      | .c => 2
    let named := line.toNat = 8 * code.toNat + i.val
    let bit : Octet := BitVec.twoPow 8 i
    let b := s.out.bank id
    let static := b.applyStep { value := if p = 1 then bit else 0, mask := bit, mode := .plain, pulse := none }
    let cadence : Bank := { b with
      latch := b.latch ||| bit
      transition := b.transition.map fun t => { t with makeSet := t.makeSet &&& ~~~bit, pulses := t.pulses.set i none }
      lines := b.lines.set i (.cadence p.toNat q.toNat 0 false) }
    let badStatic := 23 < line.toNat ∨ 1 < p.toNat
    let badCadence := 23 < line.toNat ∨ p.toNat < 2 ∨ q = 0 ∨ p.toNat ≤ q.toNat
    (named → ¬badStatic → s.run = .armed → exec (.lineSetStatic h line p q) s
      = .next (({ s.taken fs with out := s.out.setBank id static }).answered fs 0x09 .done [code, static.latch]))
    ∧ (named → ¬badCadence → s.run = .armed → exec (.lineSetCadence h line p q) s
      = .next (({ s.taken fc with out := s.out.setBank id cadence }).answered fc 0x09 .done [code, cadence.latch]))
    ∧ (badStatic → exec (.lineSetStatic h line p q) s = .next ((s.taken fs).answered fs 0x09 .badValue []))
    ∧ (badCadence → exec (.lineSetCadence h line p q) s = .next ((s.taken fc).answered fc 0x09 .badValue []))
    ∧ (¬badStatic → s.run ≠ .armed →
      exec (.lineSetStatic h line p q) s = .next ((s.taken fs).answered fs 0x09 .wrongState []))
    ∧ (¬badCadence → s.run ≠ .armed →
      exec (.lineSetCadence h line p q) s = .next ((s.taken fc).answered fc 0x09 .wrongState []))
    ∧ (1 < mode.toNat → s.receiveFrame fm = (s.taken fm).answered fm 0x09 .badValue [])

/-- CANCEL removes every held step with the tag, keeps the order of the others, counts each as cancelled, answers DONE
with the number removed and reports no record (R98, R156). -/
def Obligations.CancelRemovesTheTag : Prop :=
  ∀ (s : State) (h : Header) (tag : Word16), s.Executes h →
    let f := commandFrame h .cancel (octets16 tag)
    let t := s.taken f
    let n := (s.steps.held.filter fun st => st.tag = tag).length
    exec (.cancel h tag) s = .next (({ t with
      steps.held := s.steps.held.filter fun st => st.tag ≠ tag
      steps.counters.cancelled := s.steps.counters.cancelled + BitVec.ofNat 32 n }).answered f 0x0A .done [octetOf n])

/-- FLUSH removes every held step of the banks named, keeps the order of the others, counts each as flushed, reports
FLUSHED with cause COMMAND when it removed one, and answers DONE with the number; a reserved bit is BAD-VALUE (R99,
R157, R178). -/
def Obligations.FlushRemovesTheBanks : Prop :=
  ∀ (s : State) (h : Header) (set : Octet), s.Executes h →
    let f := commandFrame h .flush [set]
    let t := s.taken f
    let named (st : Step) : Bool := match st.bank with
      | .a => set.getLsbD 0
      | .b => set.getLsbD 1
      | .c => set.getLsbD 2
    let n := (s.steps.held.filter named).length
    let u : State := { t with
      steps.held := s.steps.held.filter fun st => !named st
      steps.counters.flushed := s.steps.counters.flushed + BitVec.ofNat 32 n }
    (set.toNat < 8 → n = 0 → exec (.flush h set) s = .next (u.answered f 0x0B .done [0]))
    ∧ (set.toNat < 8 → n ≠ 0 →
      exec (.flush h set) s = .next ((u.report (.flushed .command n)).answered f 0x0B .done [octetOf n]))
    ∧ (8 ≤ set.toNat → exec (.flush h set) s = .next (t.answered f 0x0B .badValue []))

/-- QUEUE-PEEK: the occupancy, and the held steps at the positions named, as many as exist, 13 octets each in queue
order; a start above 63 or a count outside 1..6 is BAD-VALUE; nothing else changes (R103, R158, 11.4). -/
def Obligations.QueuePeekReportsSteps : Prop :=
  ∀ (s : State) (h : Header) (start count : Octet), s.Executes h →
    let f := commandFrame h .queuePeek [start, count]
    let t := s.taken f
    let shown := (List.range count.toNat).filterMap fun k =>
      s.steps.held[start.toNat + k]?.map fun st => st.octets (start.toNat + k)
    let good := start.toNat ≤ 63 ∧ 1 ≤ count.toNat ∧ count.toNat ≤ 6
    (good → exec (.queuePeek h start count) s
      = .next (t.answered f 0x0C .done ([octetOf s.steps.held.length, octetOf shown.length] ++ shown.flatten)))
    ∧ (¬good → exec (.queuePeek h start count) s = .next (t.answered f 0x0C .badValue []))

/-- EVENT-FETCH: the overflow count and the oldest records up to the maximum, 17 octets each; those reported are
marked fetched and nothing else of the list changes; a maximum outside 1..4 is BAD-VALUE (R159, R170, 11.5). -/
def Obligations.EventFetchMarksTheOldest : Prop :=
  ∀ (s : State) (h : Header) (max : Octet), s.Executes h →
    let f := commandFrame h .eventFetch [max]
    let t := s.taken f
    let shown := s.events.records.take max.toNat
    let good := 1 ≤ max.toNat ∧ max.toNat ≤ 4
    (good → exec (.eventFetch h max) s = .next (({ t with
        events := { s.events with
          records := shown.map (fun e : EventRecord => { e with fetched := true }) ++ s.events.records.drop max.toNat } }).answered f 0x0D
        .done (octets16 (BitVec.ofNat 16 s.events.overflow) ++ [octetOf shown.length] ++ shown.flatMap EventRecord.octets)))
    ∧ (¬good → exec (.eventFetch h max) s = .next (t.answered f 0x0D .badValue []))

/-- EVENT-ACK: a held, fetched record and all older ones are removed and their number answered; then, when events were
lost, one OVERFLOW record counts them and the overflow count is 0. Any other sequence is NOT-HELD and changes nothing
(R160, R171 to R173). -/
def Obligations.EventAckRemovesFetchedRecords : Prop :=
  ∀ (s : State) (h : Header) (sequence : Word16) (older newer : List EventRecord) (e : EventRecord), s.Executes h →
    let f := commandFrame h .eventAck (octets16 sequence)
    let t := s.taken f
    let n := octetOf (older.length + 1)
    let lost : EventRecord := {
      sequence := s.events.nextSeq, kind := .overflow, severity := .warning, time := s.time.networkTime
      timeValid := s.time.sync = .locked ∨ s.time.sync = .holdover
      count := s.events.overflow, reason := none, tag := none, detail := none, fetched := false }
    let named := s.events.records = older ++ e :: newer ∧ e.sequence = sequence ∧ e.fetched = true
      ∧ ∀ x ∈ older, x.sequence ≠ sequence
    (named → s.events.overflow = 0 → exec (.eventAck h sequence) s
      = .next (({ t with events := { s.events with records := newer } }).answered f 0x0E .done [n]))
    ∧ (named → s.events.overflow ≠ 0 → exec (.eventAck h sequence) s
      = .next (({ t with events := { s.events with
          records := newer ++ [lost], nextSeq := s.events.nextSeq + 1, overflow := 0 } }).answered f 0x0E .done [n]))
    ∧ ((∀ x ∈ s.events.records, x.sequence = sequence → x.fetched = false) →
      exec (.eventAck h sequence) s = .next (t.answered f 0x0E .notHeld []))

/-- RESET SOFT: the run state becomes SAFE, every bank makes a safe transition, the queue is flushed with cause
SOFT-RESET and counted, and a RUN-CHANGE record follows unless the node was SAFE; everything else is kept. RESET FULL:
reset pending is set, the reply is recorded and joins the Insert Queue in the buffer that the reset waits for; nothing
is reset yet (R45, R102, R138, R140, R161, R162). The CHECK the waiting reply still holds is the model's reading (log
entry 13). -/
def Obligations.ResetCommandsStopOrWait : Prop :=
  (∀ (s : State) (h : Header), s.Executes h →
      let f := commandFrame h .resetSoft []
      let n := s.steps.held.length
      let quiet : State := { s.taken f with
        run := .safe
        out := { bankA := s.out.bankA.safeTransition, bankB := s.out.bankB.safeTransition, bankC := s.out.bankC.safeTransition }
        steps.held := []
        steps.counters.flushed := s.steps.counters.flushed + BitVec.ofNat 32 n }
      let flushed := if n = 0 then quiet else quiet.report (.flushed .softReset n)
      (s.run = .safe → exec (.resetSoft h) s = .next (flushed.answered f 0x0F .done []))
      ∧ (s.run ≠ .safe → exec (.resetSoft h) s
        = .next ((flushed.report (.runChange .softReset s.run .safe n)).answered f 0x0F .done [])))
  ∧ (∀ (s : State) (h : Header), s.Executes h →
      let f := commandFrame h .resetFull []
      let t := s.taken f
      let payload := t.replyPayload 0x10 .done []
      exec (.resetFull h) s = .next (({ t with
          cmd := { last := some { src := h.src, seq := h.seq, payload }, resetPending := true } }).joinInsert
        { frame := replyTo f payload, check := f.checkOf, checkCurrent := false, resetReply := true }))

/-- A command frame with no payload, an unknown code or a wrong length is answered with BAD-FORMAT, UNKNOWN or
BAD-FORMAT and changes nothing else. A unit-addressed command that meets a pending full reset, or an insert side of 3,
is dropped with a COMMAND-DROPPED record and its buffer returned; one from the recorded source with the recorded SEQ
is answered with the recorded payload (R141 to R144, R163, R178, Table 11.5). The CHECK a waiting reply still holds is
the model's reading (log entry 13). -/
def Obligations.BadCommandsAreRefusedOrDropped : Prop :=
  (∀ (s : State) (h : Header) (payload : List Octet), s.Executes h → payload.length ≤ 96 →
      let f : Frame := { dest := h.dest, src := h.src, kind := 0x53, hops := h.hops, seq := h.seq, payload }
      let t := s.taken f
      let length (code : Octet) : Option Nat := match code.toNat with
        | 1 | 7 | 8 | 15 | 16 => some 1
        | 2 | 3 | 5 | 11 | 13 => some 2
        | 10 | 12 | 14 => some 3
        | 4 => some 4
        | 6 => some 6
        | 9 => some 7
        | _ => none
      (payload = [] → s.receiveFrame f = t.answered f 0 .badFormat [])
      ∧ (∀ code ∈ payload.head?, length code = none → s.receiveFrame f = t.answered f code .unknown [])
      ∧ (∀ code ∈ payload.head?, length code ≠ none → length code ≠ some payload.length →
        s.receiveFrame f = t.answered f code .badFormat []))
  ∧ (∀ (s : State) (h : Header) (payload : List Octet), s.ForUnit h → payload.length ≤ 96 →
      let f : Frame := { dest := h.dest, src := h.src, kind := 0x53, hops := h.hops, seq := h.seq, payload }
      let dropped (r : DropReason) : State :=
        ({ s.taken f with pool.free := s.pool.free }).report (.commandDropped r (payload.headD 0) h.seq)
      let again := ∃ l ∈ s.cmd.last, l.src = h.src ∧ l.seq = h.seq
      (s.cmd.resetPending = true → s.receiveFrame f = dropped .resetPending)
      ∧ (s.cmd.resetPending = false → 3 ≤ s.tx.insertSide → s.receiveFrame f = dropped .insertFull)
      ∧ (s.cmd.resetPending = false → s.tx.insertSide < 3 → again → ∀ l ∈ s.cmd.last,
        s.receiveFrame f = (s.taken f).joinInsert
          { frame := replyTo f l.payload, check := f.checkOf, checkCurrent := false, resetReply := false }))

/-! ## The laws that every step keeps -/

/-- The ten buffers are conserved, the insert side holds at most 3, queues and credit are as the arbiter leaves them
(R10, R18, R37, R39, R40). -/
def Obligations.EveryStepConservesBuffers : Prop :=
  ∀ (s t : State), s.BufferLaw → step s = .next t → t.BufferLaw

/-- Every frame sent, and every frame waiting with its mark set, carries a right CHECK (R9, R42, R43). -/
def Obligations.EveryStepKeepsChecksRight : Prop :=
  ∀ (s t : State), s.CheckLaw → step s = .next t → t.CheckLaw

/-- At reset, and then after every step, the accepted counter is the sum of the six outcomes and the steps held,
modulo 2^32 (R105). -/
def Obligations.EveryStepAccountsForSteps : Prop :=
  State.reset.StepsAccounted ∧ ∀ (s t : State), s.StepsAccounted → step s = .next t → t.StepsAccounted

/-- The queue holds at most 64 steps in order of due time, none more than 2^29 ticks ahead (R84). -/
def Obligations.EveryStepKeepsTheQueueInOrder : Prop :=
  ∀ (s t : State), s.QueueOrder → s.TimeLaw → s.BankLaw → step s = .next t → t.QueueOrder

/-- An armed node has time and link, and FAILSAFE and UNSYNCED hold no step (R78, R101, R134). -/
def Obligations.EveryStepKeepsTheRunLaw : Prop :=
  ∀ (s t : State), s.RunLaw → step s = .next t → t.RunLaw

/-- The Event List holds at most 16 records with consecutive sequences, the fetched ones at the oldest end (R164,
R165). -/
def Obligations.EveryStepKeepsTheEventList : Prop :=
  ∀ (s t : State), s.events.Law → step s = .next t → t.events.Law

/-- Lines of a make set read 0 and are STATIC, a pulse drives the value it does not revert to, and timers, periods and
phases stay in range (R107, R108, R112). -/
def Obligations.EveryStepKeepsTheBanks : Prop :=
  ∀ (s t : State), s.BankLaw → step s = .next t → t.BankLaw

/-- In SAFE and FAILSAFE no line is in PULSE or CADENCE, and every bank without a pending transition drives its safe
pattern (R123). -/
def Obligations.EveryStepKeepsOutputsSafe : Prop :=
  ∀ (s t : State), s.SafeOutputs → step s = .next t → t.SafeOutputs

/-- No two enabled entries hold the same address, and each holds one of its class (R47, R50). -/
def Obligations.EveryStepKeepsTheAddressTable : Prop :=
  ∀ (s t : State), s.table.Law → step s = .next t → t.table.Law

/-- The Timebase obeys Table 5.1 and its timers run in their states only; the link timer runs exactly while the link
is UP out of IN-SYNC, IN-SYNC means UP, and the runs and the count of silent ticks stay in range (R2 to R5, R16, R75,
R76, R78). The buffer law rules out a frame being assembled in BYPASS. -/
def Obligations.EveryStepKeepsTimersInTheirStates : Prop :=
  (∀ (s t : State), s.TimeLaw → step s = .next t → t.TimeLaw)
  ∧ (∀ (s t : State), s.BufferLaw → s.link.Law → step s = .next t → t.link.Law)

/-- The state right after reset obeys every law. The values the model names (log entries 2, 3, 8, 10, 15, 19, 20) are
among those checked. -/
def Obligations.ResetObeysEveryLaw : Prop :=
  let s := State.reset
  s.BufferLaw ∧ s.CheckLaw ∧ s.StepsAccounted ∧ s.QueueOrder ∧ s.RunLaw ∧ s.events.Law ∧ s.BankLaw ∧ s.SafeOutputs
    ∧ s.table.Law ∧ s.TimeLaw ∧ s.link.Law

/-! ## Layouts of replies and records -/

/-- Numbers go most significant octet first. The attention condition holds while an unfetched record has a severity of
ATTENTION-LEVEL or above. The state octet, the result codes, a held step as QUEUE-PEEK reports it and a record as
EVENT-FETCH reports it are laid out as Tables 11.4, 11.8, 11.9 and 11.11 say, absent fields as zeros; each kind of
report has the code, severity, coalescing, reason, tag and detail of Tables 10.2 and 11.12 (R167, R174, R179). -/
def Obligations.RepliesAndRecordsHaveTheirLayouts : Prop :=
  let flag (b : Bool) : Nat := if b then 1 else 0
  let rank : Severity → Nat
    | .info => 0
    | .warning => 1
    | .alarm => 2
  let run : RunState → Nat
    | .safe => 0
    | .armed => 1
    | .failsafe => 2
  let sync : SyncState → Nat
    | .unsynced => 0
    | .acquiring => 1
    | .locked => 2
    | .holdover => 3
  (∀ w : Word16, (octets16 w).map (·.toNat) = [w.toNat / 256, w.toNat % 256])
  ∧ (∀ w : Word32, (octets32 w).map (·.toNat)
      = [w.toNat / 16777216, w.toNat / 65536 % 256, w.toNat / 256 % 256, w.toNat % 256])
  ∧ (∀ l : EventList,
      l.attention = true ↔ ∃ e ∈ l.records, e.fetched = false ∧ rank l.attentionLevel ≤ rank e.severity)
  ∧ (∀ s : State, s.stateOctet.toNat
      = 64 * run s.run + 16 * sync s.time.sync + 8 * flag (s.link.link == .up) + 4 * flag s.events.attention)
  ∧ (∀ r : CommandResult, r.code.toNat = match r with
      | .done => 0
      | .badFormat => 1
      | .badValue => 2
      | .wrongState => 3
      | .inUse => 4
      | .notHeld => 5
      | .unknown => 6)
  ∧ (∀ (st : Step) (position : Nat) (control : Octet),
      let bank := match st.bank with
        | .a => 0
        | .b => 1
        | .c => 2
      control.toNat = bank + 4 * flag (st.mode == .breakBeforeMake) + 8 * flag (st.policy == .apply)
        + 16 * flag st.pulse.isSome →
      st.octets position = [BitVec.ofNat 8 position] ++ octets16 st.tag ++ octets32 st.due
        ++ [control, st.value, st.mask] ++ octets16 (st.pulse.getD 0) ++ [BitVec.ofNat 8 st.source.val])
  ∧ (∀ (e : EventRecord) (flags : Octet),
      flags.toNat = rank e.severity + 4 * flag e.timeValid + 8 * flag e.tag.isSome + 16 * flag e.detail.isSome →
      e.octets = octets16 e.sequence ++ [e.kind.code, flags] ++ octets32 e.time
        ++ octets16 (BitVec.ofNat 16 e.count) ++ [e.reason.getD 0] ++ octets16 (e.tag.getD 0)
        ++ octets32 (e.detail.getD 0))
  ∧ (∀ r : Report,
      (r.kind.code.toNat, rank r.severity, flag r.kind.coalesces, r.reason.map (·.toNat), r.tag, r.detail.map (·.toNat))
      = match r with
        | .reset cause => (1, 0, 0, some (match cause with
            | .pin => 1
            | .command => 2), none, none)
        | .frameError reason => (2, 1, 1, some (match reason with
            | .check => 1
            | .length => 2
            | .oversize => 3
            | .abort => 4
            | .framing => 5
            | .code => 6
            | .link => 7), none, none)
        | .noBuffer => (3, 1, 1, none, none, none)
        | .returned dest kind => (4, 1, 1, none, none, some (dest.toNat * 16777216 + kind.toNat * 65536))
        | .unexpectedFrame cls dest kind code => (5, 1, 1, some (match cls with
            | .unit => 1
            | .group => 2
            | .broadcast => 3), none, some (dest.toNat * 16777216 + kind.toNat * 65536 + code.toNat * 256))
        | .commandDropped reason code seq => (6, 1, 1, some (match reason with
            | .resetPending => 1
            | .insertFull => 2), none, some (code.toNat * 65536 + seq.toNat))
        | .linkChange .down => (7, 2, 0, some 1, none, none)
        | .linkChange .up => (7, 0, 0, some 2, none, none)
        | .syncChange left entered =>
          (8, if entered = .unsynced then 2 else 0, 0, none, none, some (sync left * 256 + sync entered))
        | .timeStepped amount epochFlag => (9, 1, 0, if epochFlag then some 1 else none, none, some amount.toNat)
        | .stepRejected reason tag => (10, 1, 1, some (match reason with
            | .failsafe => 1
            | .noTime => 2
            | .bank => 3
            | .mask => 4
            | .tooFar => 5
            | .tooLate => 6
            | .full => 7), some tag, none)
        | .badSchedule seq => (11, 1, 0, none, none, some seq.toNat)
        | .lateApplied tag lateness => (12, 1, 0, none, some tag, some (lateness % 4294967296))
        | .lateDropped tag lateness => (13, 1, 0, none, some tag, some (lateness % 4294967296))
        | .suppressed => (14, 0, 1, none, none, none)
        | .flushed cause removed => (15, 0, 0, some (match cause with
            | .command => 1
            | .time => 2
            | .failsafe => 3
            | .softReset => 4
            | .sync => 5), none, some (removed % 4294967296))
        | .runChange cause left entered removed =>
          (16, if entered = .failsafe then 2 else 0, 0, some (match cause with
            | .arm => 1
            | .disarm => 2
            | .broadcastDisarm => 3
            | .sync => 4
            | .link => 5
            | .softReset => 6), none, some (run left * 16777216 + run entered * 65536 + removed % 65536))
        | .overflow _ => (17, 1, 0, none, none, none))
end

