-- ==== Sys2Proof/Laws/State.lean ====
section
/-! SUPPORT. Field lemmas of the shared operations: what each leaves alone, one lemma per field, and what it writes.
Operations that branch have one lemma that lists every field they leave alone. -/

namespace Sys2Proof.Machine

variable (s : State)

/-! ### report (R168) -/

@[simp] theorem State.report_resetn (r : Report) : (s.report r).resetn = s.resetn := rfl
@[simp] theorem State.report_link (r : Report) : (s.report r).link = s.link := rfl
@[simp] theorem State.report_pool (r : Report) : (s.report r).pool = s.pool := rfl
@[simp] theorem State.report_rx (r : Report) : (s.report r).rx = s.rx := rfl
@[simp] theorem State.report_tx (r : Report) : (s.report r).tx = s.tx := rfl
@[simp] theorem State.report_table (r : Report) : (s.report r).table = s.table := rfl
@[simp] theorem State.report_time (r : Report) : (s.report r).time = s.time := rfl
@[simp] theorem State.report_steps (r : Report) : (s.report r).steps = s.steps := rfl
@[simp] theorem State.report_out (r : Report) : (s.report r).out = s.out := rfl
@[simp] theorem State.report_run (r : Report) : (s.report r).run = s.run := rfl
@[simp] theorem State.report_cmd (r : Report) : (s.report r).cmd = s.cmd := rfl
@[simp] theorem State.report_downstream (r : Report) : (s.report r).downstream = s.downstream := rfl
@[simp] theorem State.report_choices (r : Report) : (s.report r).choices = s.choices := rfl
@[simp] theorem State.report_pending (r : Report) : (s.report r).pending = s.pending := rfl
@[simp] theorem State.report_events (r : Report) :
    (s.report r).events = s.events.record s.time.networkTime s.time.timeValid r := rfl

/-! ### release (R19) -/

@[simp] theorem State.release_resetn : (s.release).resetn = s.resetn := rfl
@[simp] theorem State.release_link : (s.release).link = s.link := rfl
@[simp] theorem State.release_rx : (s.release).rx = s.rx := rfl
@[simp] theorem State.release_tx : (s.release).tx = s.tx := rfl
@[simp] theorem State.release_table : (s.release).table = s.table := rfl
@[simp] theorem State.release_time : (s.release).time = s.time := rfl
@[simp] theorem State.release_steps : (s.release).steps = s.steps := rfl
@[simp] theorem State.release_out : (s.release).out = s.out := rfl
@[simp] theorem State.release_run : (s.release).run = s.run := rfl
@[simp] theorem State.release_cmd : (s.release).cmd = s.cmd := rfl
@[simp] theorem State.release_events : (s.release).events = s.events := rfl
@[simp] theorem State.release_downstream : (s.release).downstream = s.downstream := rfl
@[simp] theorem State.release_choices : (s.release).choices = s.choices := rfl
@[simp] theorem State.release_pending : (s.release).pending = s.pending := rfl
@[simp] theorem State.release_pool :
    (s.release).pool = { s.pool with free := s.pool.free + 1 } := rfl

/-! ### takeRepeat (R34, R40) -/

@[simp] theorem State.takeRepeat_resetn (b : Buffer) (rest : List Buffer) (c : Nat) : (s.takeRepeat b rest c).resetn = s.resetn := rfl
@[simp] theorem State.takeRepeat_link (b : Buffer) (rest : List Buffer) (c : Nat) : (s.takeRepeat b rest c).link = s.link := rfl
@[simp] theorem State.takeRepeat_rx (b : Buffer) (rest : List Buffer) (c : Nat) : (s.takeRepeat b rest c).rx = s.rx := rfl
@[simp] theorem State.takeRepeat_table (b : Buffer) (rest : List Buffer) (c : Nat) : (s.takeRepeat b rest c).table = s.table := rfl
@[simp] theorem State.takeRepeat_time (b : Buffer) (rest : List Buffer) (c : Nat) : (s.takeRepeat b rest c).time = s.time := rfl
@[simp] theorem State.takeRepeat_steps (b : Buffer) (rest : List Buffer) (c : Nat) : (s.takeRepeat b rest c).steps = s.steps := rfl
@[simp] theorem State.takeRepeat_out (b : Buffer) (rest : List Buffer) (c : Nat) : (s.takeRepeat b rest c).out = s.out := rfl
@[simp] theorem State.takeRepeat_run (b : Buffer) (rest : List Buffer) (c : Nat) : (s.takeRepeat b rest c).run = s.run := rfl
@[simp] theorem State.takeRepeat_cmd (b : Buffer) (rest : List Buffer) (c : Nat) : (s.takeRepeat b rest c).cmd = s.cmd := rfl
@[simp] theorem State.takeRepeat_events (b : Buffer) (rest : List Buffer) (c : Nat) : (s.takeRepeat b rest c).events = s.events := rfl
@[simp] theorem State.takeRepeat_downstream (b : Buffer) (rest : List Buffer) (c : Nat) : (s.takeRepeat b rest c).downstream = s.downstream := rfl
@[simp] theorem State.takeRepeat_choices (b : Buffer) (rest : List Buffer) (c : Nat) : (s.takeRepeat b rest c).choices = s.choices := rfl
@[simp] theorem State.takeRepeat_pending (b : Buffer) (rest : List Buffer) (c : Nat) : (s.takeRepeat b rest c).pending = s.pending := rfl
@[simp] theorem State.takeRepeat_pool (b : Buffer) (rest : List Buffer) (c : Nat) :
    (s.takeRepeat b rest c).pool = { s.pool with repeatQueue := rest } := rfl
@[simp] theorem State.takeRepeat_tx (b : Buffer) (rest : List Buffer) (c : Nat) :
    (s.takeRepeat b rest c).tx = { s.tx with state := .sending b.ready .fromRepeat, credit := c } := rfl

/-! ### takeInsert (R39, R40) -/

@[simp] theorem State.takeInsert_resetn (b : Buffer) (rest : List Buffer) : (s.takeInsert b rest).resetn = s.resetn := rfl
@[simp] theorem State.takeInsert_link (b : Buffer) (rest : List Buffer) : (s.takeInsert b rest).link = s.link := rfl
@[simp] theorem State.takeInsert_pool (b : Buffer) (rest : List Buffer) : (s.takeInsert b rest).pool = s.pool := rfl
@[simp] theorem State.takeInsert_rx (b : Buffer) (rest : List Buffer) : (s.takeInsert b rest).rx = s.rx := rfl
@[simp] theorem State.takeInsert_table (b : Buffer) (rest : List Buffer) : (s.takeInsert b rest).table = s.table := rfl
@[simp] theorem State.takeInsert_time (b : Buffer) (rest : List Buffer) : (s.takeInsert b rest).time = s.time := rfl
@[simp] theorem State.takeInsert_steps (b : Buffer) (rest : List Buffer) : (s.takeInsert b rest).steps = s.steps := rfl
@[simp] theorem State.takeInsert_out (b : Buffer) (rest : List Buffer) : (s.takeInsert b rest).out = s.out := rfl
@[simp] theorem State.takeInsert_run (b : Buffer) (rest : List Buffer) : (s.takeInsert b rest).run = s.run := rfl
@[simp] theorem State.takeInsert_cmd (b : Buffer) (rest : List Buffer) : (s.takeInsert b rest).cmd = s.cmd := rfl
@[simp] theorem State.takeInsert_events (b : Buffer) (rest : List Buffer) : (s.takeInsert b rest).events = s.events := rfl
@[simp] theorem State.takeInsert_downstream (b : Buffer) (rest : List Buffer) : (s.takeInsert b rest).downstream = s.downstream := rfl
@[simp] theorem State.takeInsert_choices (b : Buffer) (rest : List Buffer) : (s.takeInsert b rest).choices = s.choices := rfl
@[simp] theorem State.takeInsert_pending (b : Buffer) (rest : List Buffer) : (s.takeInsert b rest).pending = s.pending := rfl
@[simp] theorem State.takeInsert_tx (b : Buffer) (rest : List Buffer) :
    (s.takeInsert b rest).tx = { s.tx with insertQueue := rest, state := .sending b.ready .fromInsert, credit := 0 } := rfl

/-! ### safeTransitions (R123) -/

@[simp] theorem State.safeTransitions_resetn : (s.safeTransitions).resetn = s.resetn := rfl
@[simp] theorem State.safeTransitions_link : (s.safeTransitions).link = s.link := rfl
@[simp] theorem State.safeTransitions_pool : (s.safeTransitions).pool = s.pool := rfl
@[simp] theorem State.safeTransitions_rx : (s.safeTransitions).rx = s.rx := rfl
@[simp] theorem State.safeTransitions_tx : (s.safeTransitions).tx = s.tx := rfl
@[simp] theorem State.safeTransitions_table : (s.safeTransitions).table = s.table := rfl
@[simp] theorem State.safeTransitions_time : (s.safeTransitions).time = s.time := rfl
@[simp] theorem State.safeTransitions_steps : (s.safeTransitions).steps = s.steps := rfl
@[simp] theorem State.safeTransitions_run : (s.safeTransitions).run = s.run := rfl
@[simp] theorem State.safeTransitions_cmd : (s.safeTransitions).cmd = s.cmd := rfl
@[simp] theorem State.safeTransitions_events : (s.safeTransitions).events = s.events := rfl
@[simp] theorem State.safeTransitions_downstream : (s.safeTransitions).downstream = s.downstream := rfl
@[simp] theorem State.safeTransitions_choices : (s.safeTransitions).choices = s.choices := rfl
@[simp] theorem State.safeTransitions_pending : (s.safeTransitions).pending = s.pending := rfl
@[simp] theorem State.safeTransitions_out :
    (s.safeTransitions).out = s.out.safeAll := rfl

/-! ### withBank -/

@[simp] theorem State.withBank_resetn (id : BankId) (f : Bank → Bank) : (s.withBank id f).resetn = s.resetn := rfl
@[simp] theorem State.withBank_link (id : BankId) (f : Bank → Bank) : (s.withBank id f).link = s.link := rfl
@[simp] theorem State.withBank_pool (id : BankId) (f : Bank → Bank) : (s.withBank id f).pool = s.pool := rfl
@[simp] theorem State.withBank_rx (id : BankId) (f : Bank → Bank) : (s.withBank id f).rx = s.rx := rfl
@[simp] theorem State.withBank_tx (id : BankId) (f : Bank → Bank) : (s.withBank id f).tx = s.tx := rfl
@[simp] theorem State.withBank_table (id : BankId) (f : Bank → Bank) : (s.withBank id f).table = s.table := rfl
@[simp] theorem State.withBank_time (id : BankId) (f : Bank → Bank) : (s.withBank id f).time = s.time := rfl
@[simp] theorem State.withBank_steps (id : BankId) (f : Bank → Bank) : (s.withBank id f).steps = s.steps := rfl
@[simp] theorem State.withBank_run (id : BankId) (f : Bank → Bank) : (s.withBank id f).run = s.run := rfl
@[simp] theorem State.withBank_cmd (id : BankId) (f : Bank → Bank) : (s.withBank id f).cmd = s.cmd := rfl
@[simp] theorem State.withBank_events (id : BankId) (f : Bank → Bank) : (s.withBank id f).events = s.events := rfl
@[simp] theorem State.withBank_downstream (id : BankId) (f : Bank → Bank) : (s.withBank id f).downstream = s.downstream := rfl
@[simp] theorem State.withBank_choices (id : BankId) (f : Bank → Bank) : (s.withBank id f).choices = s.choices := rfl
@[simp] theorem State.withBank_pending (id : BankId) (f : Bank → Bank) : (s.withBank id f).pending = s.pending := rfl
@[simp] theorem State.withBank_out (id : BankId) (f : Bank → Bank) :
    (s.withBank id f).out = s.out.setBank id (f (s.out.bank id)) := rfl

/-! ### handOver (R94) -/

@[simp] theorem State.handOver_resetn (st : Step) : (s.handOver st).resetn = s.resetn := rfl
@[simp] theorem State.handOver_link (st : Step) : (s.handOver st).link = s.link := rfl
@[simp] theorem State.handOver_pool (st : Step) : (s.handOver st).pool = s.pool := rfl
@[simp] theorem State.handOver_rx (st : Step) : (s.handOver st).rx = s.rx := rfl
@[simp] theorem State.handOver_tx (st : Step) : (s.handOver st).tx = s.tx := rfl
@[simp] theorem State.handOver_table (st : Step) : (s.handOver st).table = s.table := rfl
@[simp] theorem State.handOver_time (st : Step) : (s.handOver st).time = s.time := rfl
@[simp] theorem State.handOver_steps (st : Step) : (s.handOver st).steps = s.steps := rfl
@[simp] theorem State.handOver_run (st : Step) : (s.handOver st).run = s.run := rfl
@[simp] theorem State.handOver_cmd (st : Step) : (s.handOver st).cmd = s.cmd := rfl
@[simp] theorem State.handOver_events (st : Step) : (s.handOver st).events = s.events := rfl
@[simp] theorem State.handOver_downstream (st : Step) : (s.handOver st).downstream = s.downstream := rfl
@[simp] theorem State.handOver_choices (st : Step) : (s.handOver st).choices = s.choices := rfl
@[simp] theorem State.handOver_pending (st : Step) : (s.handOver st).pending = s.pending := rfl
@[simp] theorem State.handOver_out (st : Step) :
    (s.handOver st).out = s.out.setBank st.bank ((s.out.bank st.bank).applyStep st.toBankStep) := rfl

/-! ### countConsumed (R35) -/

@[simp] theorem State.countConsumed_resetn : (s.countConsumed).resetn = s.resetn := rfl
@[simp] theorem State.countConsumed_link : (s.countConsumed).link = s.link := rfl
@[simp] theorem State.countConsumed_pool : (s.countConsumed).pool = s.pool := rfl
@[simp] theorem State.countConsumed_tx : (s.countConsumed).tx = s.tx := rfl
@[simp] theorem State.countConsumed_table : (s.countConsumed).table = s.table := rfl
@[simp] theorem State.countConsumed_time : (s.countConsumed).time = s.time := rfl
@[simp] theorem State.countConsumed_steps : (s.countConsumed).steps = s.steps := rfl
@[simp] theorem State.countConsumed_out : (s.countConsumed).out = s.out := rfl
@[simp] theorem State.countConsumed_run : (s.countConsumed).run = s.run := rfl
@[simp] theorem State.countConsumed_cmd : (s.countConsumed).cmd = s.cmd := rfl
@[simp] theorem State.countConsumed_events : (s.countConsumed).events = s.events := rfl
@[simp] theorem State.countConsumed_downstream : (s.countConsumed).downstream = s.downstream := rfl
@[simp] theorem State.countConsumed_choices : (s.countConsumed).choices = s.choices := rfl
@[simp] theorem State.countConsumed_pending : (s.countConsumed).pending = s.pending := rfl
@[simp] theorem State.countConsumed_rx :
    (s.countConsumed).rx = { s.rx with framesConsumed := s.rx.framesConsumed + 1 } := rfl

/-! ### countFiltered (R51) -/

@[simp] theorem State.countFiltered_resetn : (s.countFiltered).resetn = s.resetn := rfl
@[simp] theorem State.countFiltered_link : (s.countFiltered).link = s.link := rfl
@[simp] theorem State.countFiltered_pool : (s.countFiltered).pool = s.pool := rfl
@[simp] theorem State.countFiltered_tx : (s.countFiltered).tx = s.tx := rfl
@[simp] theorem State.countFiltered_table : (s.countFiltered).table = s.table := rfl
@[simp] theorem State.countFiltered_time : (s.countFiltered).time = s.time := rfl
@[simp] theorem State.countFiltered_steps : (s.countFiltered).steps = s.steps := rfl
@[simp] theorem State.countFiltered_out : (s.countFiltered).out = s.out := rfl
@[simp] theorem State.countFiltered_run : (s.countFiltered).run = s.run := rfl
@[simp] theorem State.countFiltered_cmd : (s.countFiltered).cmd = s.cmd := rfl
@[simp] theorem State.countFiltered_events : (s.countFiltered).events = s.events := rfl
@[simp] theorem State.countFiltered_downstream : (s.countFiltered).downstream = s.downstream := rfl
@[simp] theorem State.countFiltered_choices : (s.countFiltered).choices = s.choices := rfl
@[simp] theorem State.countFiltered_pending : (s.countFiltered).pending = s.pending := rfl
@[simp] theorem State.countFiltered_rx :
    (s.countFiltered).rx = { s.rx with filtered := s.rx.filtered + 1 } := rfl

/-! ### frameError (R13) -/

@[simp] theorem State.frameError_resetn (e : FrameFault) : (s.frameError e).resetn = s.resetn := rfl
@[simp] theorem State.frameError_link (e : FrameFault) : (s.frameError e).link = s.link := rfl
@[simp] theorem State.frameError_pool (e : FrameFault) : (s.frameError e).pool = s.pool := rfl
@[simp] theorem State.frameError_tx (e : FrameFault) : (s.frameError e).tx = s.tx := rfl
@[simp] theorem State.frameError_table (e : FrameFault) : (s.frameError e).table = s.table := rfl
@[simp] theorem State.frameError_time (e : FrameFault) : (s.frameError e).time = s.time := rfl
@[simp] theorem State.frameError_steps (e : FrameFault) : (s.frameError e).steps = s.steps := rfl
@[simp] theorem State.frameError_out (e : FrameFault) : (s.frameError e).out = s.out := rfl
@[simp] theorem State.frameError_run (e : FrameFault) : (s.frameError e).run = s.run := rfl
@[simp] theorem State.frameError_cmd (e : FrameFault) : (s.frameError e).cmd = s.cmd := rfl
@[simp] theorem State.frameError_downstream (e : FrameFault) : (s.frameError e).downstream = s.downstream := rfl
@[simp] theorem State.frameError_choices (e : FrameFault) : (s.frameError e).choices = s.choices := rfl
@[simp] theorem State.frameError_pending (e : FrameFault) : (s.frameError e).pending = s.pending := rfl
@[simp] theorem State.frameError_rx (e : FrameFault) :
    (s.frameError e).rx = { s.rx with frameErrors := s.rx.frameErrors + 1 } := rfl
@[simp] theorem State.frameError_events (e : FrameFault) :
    (s.frameError e).events = s.events.record s.time.networkTime s.time.timeValid (.frameError e) := rfl

/-! ### dropAssembly (R13) -/

@[simp] theorem State.dropAssembly_resetn (e : FrameFault) (a : Assembly) : (s.dropAssembly e a).resetn = s.resetn := rfl
@[simp] theorem State.dropAssembly_tx (e : FrameFault) (a : Assembly) : (s.dropAssembly e a).tx = s.tx := rfl
@[simp] theorem State.dropAssembly_table (e : FrameFault) (a : Assembly) : (s.dropAssembly e a).table = s.table := rfl
@[simp] theorem State.dropAssembly_time (e : FrameFault) (a : Assembly) : (s.dropAssembly e a).time = s.time := rfl
@[simp] theorem State.dropAssembly_steps (e : FrameFault) (a : Assembly) : (s.dropAssembly e a).steps = s.steps := rfl
@[simp] theorem State.dropAssembly_out (e : FrameFault) (a : Assembly) : (s.dropAssembly e a).out = s.out := rfl
@[simp] theorem State.dropAssembly_run (e : FrameFault) (a : Assembly) : (s.dropAssembly e a).run = s.run := rfl
@[simp] theorem State.dropAssembly_cmd (e : FrameFault) (a : Assembly) : (s.dropAssembly e a).cmd = s.cmd := rfl
@[simp] theorem State.dropAssembly_downstream (e : FrameFault) (a : Assembly) : (s.dropAssembly e a).downstream = s.downstream := rfl
@[simp] theorem State.dropAssembly_choices (e : FrameFault) (a : Assembly) : (s.dropAssembly e a).choices = s.choices := rfl
@[simp] theorem State.dropAssembly_pending (e : FrameFault) (a : Assembly) : (s.dropAssembly e a).pending = s.pending := rfl
@[simp] theorem State.dropAssembly_link (e : FrameFault) (a : Assembly) :
    (s.dropAssembly e a).link = { s.link with assembly := a } := rfl
@[simp] theorem State.dropAssembly_pool (e : FrameFault) (a : Assembly) :
    (s.dropAssembly e a).pool = { s.pool with free := s.pool.free + 1 } := rfl
@[simp] theorem State.dropAssembly_rx (e : FrameFault) (a : Assembly) :
    (s.dropAssembly e a).rx = { s.rx with frameErrors := s.rx.frameErrors + 1 } := rfl
@[simp] theorem State.dropAssembly_events (e : FrameFault) (a : Assembly) :
    (s.dropAssembly e a).events = s.events.record s.time.networkTime s.time.timeValid (.frameError e) := rfl

/-! ### countValid (R4) -/

@[simp] theorem State.countValid_resetn : (s.countValid).resetn = s.resetn := rfl
@[simp] theorem State.countValid_pool : (s.countValid).pool = s.pool := rfl
@[simp] theorem State.countValid_rx : (s.countValid).rx = s.rx := rfl
@[simp] theorem State.countValid_tx : (s.countValid).tx = s.tx := rfl
@[simp] theorem State.countValid_table : (s.countValid).table = s.table := rfl
@[simp] theorem State.countValid_time : (s.countValid).time = s.time := rfl
@[simp] theorem State.countValid_steps : (s.countValid).steps = s.steps := rfl
@[simp] theorem State.countValid_out : (s.countValid).out = s.out := rfl
@[simp] theorem State.countValid_run : (s.countValid).run = s.run := rfl
@[simp] theorem State.countValid_cmd : (s.countValid).cmd = s.cmd := rfl
@[simp] theorem State.countValid_events : (s.countValid).events = s.events := rfl
@[simp] theorem State.countValid_downstream : (s.countValid).downstream = s.downstream := rfl
@[simp] theorem State.countValid_choices : (s.countValid).choices = s.choices := rfl
@[simp] theorem State.countValid_pending : (s.countValid).pending = s.pending := rfl

/-! ### suppress (R93) -/

@[simp] theorem State.suppress_resetn : (s.suppress).resetn = s.resetn := rfl
@[simp] theorem State.suppress_link : (s.suppress).link = s.link := rfl
@[simp] theorem State.suppress_pool : (s.suppress).pool = s.pool := rfl
@[simp] theorem State.suppress_rx : (s.suppress).rx = s.rx := rfl
@[simp] theorem State.suppress_tx : (s.suppress).tx = s.tx := rfl
@[simp] theorem State.suppress_table : (s.suppress).table = s.table := rfl
@[simp] theorem State.suppress_time : (s.suppress).time = s.time := rfl
@[simp] theorem State.suppress_out : (s.suppress).out = s.out := rfl
@[simp] theorem State.suppress_run : (s.suppress).run = s.run := rfl
@[simp] theorem State.suppress_cmd : (s.suppress).cmd = s.cmd := rfl
@[simp] theorem State.suppress_downstream : (s.suppress).downstream = s.downstream := rfl
@[simp] theorem State.suppress_choices : (s.suppress).choices = s.choices := rfl
@[simp] theorem State.suppress_pending : (s.suppress).pending = s.pending := rfl
@[simp] theorem State.suppress_steps :
    (s.suppress).steps = { s.steps with counters.suppressed := s.steps.counters.suppressed + 1 } := rfl
@[simp] theorem State.suppress_events :
    (s.suppress).events = s.events.record s.time.networkTime s.time.timeValid .suppressed := rfl

/-! ### applyLate (R92, R96) -/

@[simp] theorem State.applyLate_resetn (st : Step) (n : Nat) : (s.applyLate st n).resetn = s.resetn := rfl
@[simp] theorem State.applyLate_link (st : Step) (n : Nat) : (s.applyLate st n).link = s.link := rfl
@[simp] theorem State.applyLate_pool (st : Step) (n : Nat) : (s.applyLate st n).pool = s.pool := rfl
@[simp] theorem State.applyLate_rx (st : Step) (n : Nat) : (s.applyLate st n).rx = s.rx := rfl
@[simp] theorem State.applyLate_tx (st : Step) (n : Nat) : (s.applyLate st n).tx = s.tx := rfl
@[simp] theorem State.applyLate_table (st : Step) (n : Nat) : (s.applyLate st n).table = s.table := rfl
@[simp] theorem State.applyLate_time (st : Step) (n : Nat) : (s.applyLate st n).time = s.time := rfl
@[simp] theorem State.applyLate_run (st : Step) (n : Nat) : (s.applyLate st n).run = s.run := rfl
@[simp] theorem State.applyLate_cmd (st : Step) (n : Nat) : (s.applyLate st n).cmd = s.cmd := rfl
@[simp] theorem State.applyLate_downstream (st : Step) (n : Nat) : (s.applyLate st n).downstream = s.downstream := rfl
@[simp] theorem State.applyLate_choices (st : Step) (n : Nat) : (s.applyLate st n).choices = s.choices := rfl
@[simp] theorem State.applyLate_pending (st : Step) (n : Nat) : (s.applyLate st n).pending = s.pending := rfl
@[simp] theorem State.applyLate_out (st : Step) (n : Nat) :
    (s.applyLate st n).out = (s.handOver st).out := rfl
@[simp] theorem State.applyLate_steps (st : Step) (n : Nat) :
    (s.applyLate st n).steps = { s.steps with counters.lateApplied := s.steps.counters.lateApplied + 1 } := rfl
@[simp] theorem State.applyLate_events (st : Step) (n : Nat) :
    (s.applyLate st n).events = s.events.record s.time.networkTime s.time.timeValid (.lateApplied st.tag n) := rfl

/-! ### cancelTag (R98) -/

@[simp] theorem State.cancelTag_resetn (t : Word16) : (s.cancelTag t).resetn = s.resetn := rfl
@[simp] theorem State.cancelTag_link (t : Word16) : (s.cancelTag t).link = s.link := rfl
@[simp] theorem State.cancelTag_pool (t : Word16) : (s.cancelTag t).pool = s.pool := rfl
@[simp] theorem State.cancelTag_rx (t : Word16) : (s.cancelTag t).rx = s.rx := rfl
@[simp] theorem State.cancelTag_tx (t : Word16) : (s.cancelTag t).tx = s.tx := rfl
@[simp] theorem State.cancelTag_table (t : Word16) : (s.cancelTag t).table = s.table := rfl
@[simp] theorem State.cancelTag_time (t : Word16) : (s.cancelTag t).time = s.time := rfl
@[simp] theorem State.cancelTag_out (t : Word16) : (s.cancelTag t).out = s.out := rfl
@[simp] theorem State.cancelTag_run (t : Word16) : (s.cancelTag t).run = s.run := rfl
@[simp] theorem State.cancelTag_cmd (t : Word16) : (s.cancelTag t).cmd = s.cmd := rfl
@[simp] theorem State.cancelTag_events (t : Word16) : (s.cancelTag t).events = s.events := rfl
@[simp] theorem State.cancelTag_downstream (t : Word16) : (s.cancelTag t).downstream = s.downstream := rfl
@[simp] theorem State.cancelTag_choices (t : Word16) : (s.cancelTag t).choices = s.choices := rfl
@[simp] theorem State.cancelTag_pending (t : Word16) : (s.cancelTag t).pending = s.pending := rfl

/-! ### enterHoldover (R75) -/

@[simp] theorem State.enterHoldover_resetn : (s.enterHoldover).resetn = s.resetn := rfl
@[simp] theorem State.enterHoldover_link : (s.enterHoldover).link = s.link := rfl
@[simp] theorem State.enterHoldover_pool : (s.enterHoldover).pool = s.pool := rfl
@[simp] theorem State.enterHoldover_rx : (s.enterHoldover).rx = s.rx := rfl
@[simp] theorem State.enterHoldover_tx : (s.enterHoldover).tx = s.tx := rfl
@[simp] theorem State.enterHoldover_table : (s.enterHoldover).table = s.table := rfl
@[simp] theorem State.enterHoldover_steps : (s.enterHoldover).steps = s.steps := rfl
@[simp] theorem State.enterHoldover_out : (s.enterHoldover).out = s.out := rfl
@[simp] theorem State.enterHoldover_run : (s.enterHoldover).run = s.run := rfl
@[simp] theorem State.enterHoldover_cmd : (s.enterHoldover).cmd = s.cmd := rfl
@[simp] theorem State.enterHoldover_downstream : (s.enterHoldover).downstream = s.downstream := rfl
@[simp] theorem State.enterHoldover_choices : (s.enterHoldover).choices = s.choices := rfl
@[simp] theorem State.enterHoldover_pending : (s.enterHoldover).pending = s.pending := rfl

/-! ### strip (R22) -/

@[simp] theorem State.strip_resetn (f : Frame) : (s.strip f).resetn = s.resetn := rfl
@[simp] theorem State.strip_link (f : Frame) : (s.strip f).link = s.link := rfl
@[simp] theorem State.strip_tx (f : Frame) : (s.strip f).tx = s.tx := rfl
@[simp] theorem State.strip_table (f : Frame) : (s.strip f).table = s.table := rfl
@[simp] theorem State.strip_time (f : Frame) : (s.strip f).time = s.time := rfl
@[simp] theorem State.strip_steps (f : Frame) : (s.strip f).steps = s.steps := rfl
@[simp] theorem State.strip_out (f : Frame) : (s.strip f).out = s.out := rfl
@[simp] theorem State.strip_run (f : Frame) : (s.strip f).run = s.run := rfl
@[simp] theorem State.strip_cmd (f : Frame) : (s.strip f).cmd = s.cmd := rfl
@[simp] theorem State.strip_downstream (f : Frame) : (s.strip f).downstream = s.downstream := rfl
@[simp] theorem State.strip_choices (f : Frame) : (s.strip f).choices = s.choices := rfl
@[simp] theorem State.strip_pending (f : Frame) : (s.strip f).pending = s.pending := rfl
@[simp] theorem State.strip_pool (f : Frame) :
    (s.strip f).pool = { s.pool with free := s.pool.free + 1 } := rfl
@[simp] theorem State.strip_rx (f : Frame) :
    (s.strip f).rx = { s.rx with returned := s.rx.returned + 1 } := rfl
@[simp] theorem State.strip_events (f : Frame) :
    (s.strip f).events = s.events.record s.time.networkTime s.time.timeValid (.returned f.dest f.kind) := rfl

/-! ### dropCommand (R143) -/

@[simp] theorem State.dropCommand_resetn (f : Frame) (d : DropReason) : (s.dropCommand f d).resetn = s.resetn := rfl
@[simp] theorem State.dropCommand_link (f : Frame) (d : DropReason) : (s.dropCommand f d).link = s.link := rfl
@[simp] theorem State.dropCommand_rx (f : Frame) (d : DropReason) : (s.dropCommand f d).rx = s.rx := rfl
@[simp] theorem State.dropCommand_tx (f : Frame) (d : DropReason) : (s.dropCommand f d).tx = s.tx := rfl
@[simp] theorem State.dropCommand_table (f : Frame) (d : DropReason) : (s.dropCommand f d).table = s.table := rfl
@[simp] theorem State.dropCommand_time (f : Frame) (d : DropReason) : (s.dropCommand f d).time = s.time := rfl
@[simp] theorem State.dropCommand_steps (f : Frame) (d : DropReason) : (s.dropCommand f d).steps = s.steps := rfl
@[simp] theorem State.dropCommand_out (f : Frame) (d : DropReason) : (s.dropCommand f d).out = s.out := rfl
@[simp] theorem State.dropCommand_run (f : Frame) (d : DropReason) : (s.dropCommand f d).run = s.run := rfl
@[simp] theorem State.dropCommand_cmd (f : Frame) (d : DropReason) : (s.dropCommand f d).cmd = s.cmd := rfl
@[simp] theorem State.dropCommand_downstream (f : Frame) (d : DropReason) : (s.dropCommand f d).downstream = s.downstream := rfl
@[simp] theorem State.dropCommand_choices (f : Frame) (d : DropReason) : (s.dropCommand f d).choices = s.choices := rfl
@[simp] theorem State.dropCommand_pending (f : Frame) (d : DropReason) : (s.dropCommand f d).pending = s.pending := rfl
@[simp] theorem State.dropCommand_pool (f : Frame) (d : DropReason) :
    (s.dropCommand f d).pool = { s.pool with free := s.pool.free + 1 } := rfl
@[simp] theorem State.dropCommand_events (f : Frame) (d : DropReason) :
    (s.dropCommand f d).events = s.events.record s.time.networkTime s.time.timeValid (.commandDropped d f.codeOctet f.seq) := rfl

/-! ### heard (R2) -/

@[simp] theorem State.heard_resetn : (s.heard).resetn = s.resetn := rfl
@[simp] theorem State.heard_pool : (s.heard).pool = s.pool := rfl
@[simp] theorem State.heard_rx : (s.heard).rx = s.rx := rfl
@[simp] theorem State.heard_tx : (s.heard).tx = s.tx := rfl
@[simp] theorem State.heard_table : (s.heard).table = s.table := rfl
@[simp] theorem State.heard_time : (s.heard).time = s.time := rfl
@[simp] theorem State.heard_steps : (s.heard).steps = s.steps := rfl
@[simp] theorem State.heard_out : (s.heard).out = s.out := rfl
@[simp] theorem State.heard_run : (s.heard).run = s.run := rfl
@[simp] theorem State.heard_cmd : (s.heard).cmd = s.cmd := rfl
@[simp] theorem State.heard_events : (s.heard).events = s.events := rfl
@[simp] theorem State.heard_downstream : (s.heard).downstream = s.downstream := rfl
@[simp] theorem State.heard_choices : (s.heard).choices = s.choices := rfl
@[simp] theorem State.heard_pending : (s.heard).pending = s.pending := rfl
@[simp] theorem State.heard_link :
    (s.heard).link = { s.link with silence := 0 } := rfl

/-! ### advance (R62, R63) -/

@[simp] theorem State.advance_resetn : (s.advance).resetn = s.resetn := rfl
@[simp] theorem State.advance_pool : (s.advance).pool = s.pool := rfl
@[simp] theorem State.advance_rx : (s.advance).rx = s.rx := rfl
@[simp] theorem State.advance_tx : (s.advance).tx = s.tx := rfl
@[simp] theorem State.advance_table : (s.advance).table = s.table := rfl
@[simp] theorem State.advance_steps : (s.advance).steps = s.steps := rfl
@[simp] theorem State.advance_run : (s.advance).run = s.run := rfl
@[simp] theorem State.advance_cmd : (s.advance).cmd = s.cmd := rfl
@[simp] theorem State.advance_events : (s.advance).events = s.events := rfl
@[simp] theorem State.advance_downstream : (s.advance).downstream = s.downstream := rfl
@[simp] theorem State.advance_choices : (s.advance).choices = s.choices := rfl
@[simp] theorem State.advance_pending : (s.advance).pending = s.pending := rfl
@[simp] theorem State.advance_time :
    (s.advance).time = s.time.tick := rfl
@[simp] theorem State.advance_link :
    (s.advance).link = s.link.tick := rfl
@[simp] theorem State.advance_out :
    (s.advance).out = s.out.tick := rfl

/-! ### Operations that branch -/

@[simp] theorem State.arbitrate_frame :
    (s.arbitrate).resetn = s.resetn ∧ (s.arbitrate).link = s.link ∧ (s.arbitrate).rx = s.rx
      ∧ (s.arbitrate).table = s.table ∧ (s.arbitrate).time = s.time ∧ (s.arbitrate).steps = s.steps
      ∧ (s.arbitrate).out = s.out ∧ (s.arbitrate).run = s.run ∧ (s.arbitrate).cmd = s.cmd
      ∧ (s.arbitrate).events = s.events ∧ (s.arbitrate).downstream = s.downstream ∧ (s.arbitrate).choices = s.choices
      ∧ (s.arbitrate).pending = s.pending := by
  unfold State.arbitrate
  split <;> (try split) <;> simp

@[simp] theorem State.afterJoin_frame :
    (s.afterJoin).resetn = s.resetn ∧ (s.afterJoin).link = s.link ∧ (s.afterJoin).rx = s.rx
      ∧ (s.afterJoin).table = s.table ∧ (s.afterJoin).time = s.time ∧ (s.afterJoin).steps = s.steps
      ∧ (s.afterJoin).out = s.out ∧ (s.afterJoin).run = s.run ∧ (s.afterJoin).cmd = s.cmd
      ∧ (s.afterJoin).events = s.events ∧ (s.afterJoin).downstream = s.downstream ∧ (s.afterJoin).choices = s.choices
      ∧ (s.afterJoin).pending = s.pending := by
  unfold State.afterJoin
  split <;> simp

@[simp] theorem State.joinRepeat_frame (b : Buffer) :
    (s.joinRepeat b).resetn = s.resetn ∧ (s.joinRepeat b).link = s.link ∧ (s.joinRepeat b).rx = s.rx
      ∧ (s.joinRepeat b).table = s.table ∧ (s.joinRepeat b).time = s.time ∧ (s.joinRepeat b).steps = s.steps
      ∧ (s.joinRepeat b).out = s.out ∧ (s.joinRepeat b).run = s.run ∧ (s.joinRepeat b).cmd = s.cmd
      ∧ (s.joinRepeat b).events = s.events ∧ (s.joinRepeat b).downstream = s.downstream
      ∧ (s.joinRepeat b).choices = s.choices ∧ (s.joinRepeat b).pending = s.pending := by
  simp [State.joinRepeat]

@[simp] theorem State.joinInsert_frame (b : Buffer) :
    (s.joinInsert b).resetn = s.resetn ∧ (s.joinInsert b).link = s.link ∧ (s.joinInsert b).rx = s.rx
      ∧ (s.joinInsert b).table = s.table ∧ (s.joinInsert b).time = s.time ∧ (s.joinInsert b).steps = s.steps
      ∧ (s.joinInsert b).out = s.out ∧ (s.joinInsert b).run = s.run ∧ (s.joinInsert b).cmd = s.cmd
      ∧ (s.joinInsert b).events = s.events ∧ (s.joinInsert b).downstream = s.downstream
      ∧ (s.joinInsert b).choices = s.choices ∧ (s.joinInsert b).pending = s.pending := by
  simp [State.joinInsert]

@[simp] theorem State.countFlushed_frame (c : FlushCause) (n : Nat) :
    (s.countFlushed c n).resetn = s.resetn ∧ (s.countFlushed c n).link = s.link ∧ (s.countFlushed c n).pool = s.pool
      ∧ (s.countFlushed c n).rx = s.rx ∧ (s.countFlushed c n).tx = s.tx ∧ (s.countFlushed c n).table = s.table
      ∧ (s.countFlushed c n).time = s.time ∧ (s.countFlushed c n).out = s.out ∧ (s.countFlushed c n).run = s.run
      ∧ (s.countFlushed c n).cmd = s.cmd ∧ (s.countFlushed c n).downstream = s.downstream
      ∧ (s.countFlushed c n).choices = s.choices ∧ (s.countFlushed c n).pending = s.pending := by
  unfold State.countFlushed
  split <;> simp

@[simp] theorem State.flushAll_frame (c : FlushCause) :
    (s.flushAll c).resetn = s.resetn ∧ (s.flushAll c).link = s.link ∧ (s.flushAll c).pool = s.pool
      ∧ (s.flushAll c).rx = s.rx ∧ (s.flushAll c).tx = s.tx ∧ (s.flushAll c).table = s.table
      ∧ (s.flushAll c).time = s.time ∧ (s.flushAll c).out = s.out ∧ (s.flushAll c).run = s.run
      ∧ (s.flushAll c).cmd = s.cmd ∧ (s.flushAll c).downstream = s.downstream ∧ (s.flushAll c).choices = s.choices
      ∧ (s.flushAll c).pending = s.pending := by
  simp [State.flushAll]

@[simp] theorem State.enterFailsafe_frame (c : RunCause) :
    (s.enterFailsafe c).resetn = s.resetn ∧ (s.enterFailsafe c).link = s.link ∧ (s.enterFailsafe c).pool = s.pool
      ∧ (s.enterFailsafe c).rx = s.rx ∧ (s.enterFailsafe c).tx = s.tx ∧ (s.enterFailsafe c).table = s.table
      ∧ (s.enterFailsafe c).time = s.time ∧ (s.enterFailsafe c).cmd = s.cmd
      ∧ (s.enterFailsafe c).downstream = s.downstream ∧ (s.enterFailsafe c).choices = s.choices
      ∧ (s.enterFailsafe c).pending = s.pending := by
  simp [State.enterFailsafe]

@[simp] theorem State.loseTrust_frame (c : RunCause) :
    (s.loseTrust c).resetn = s.resetn ∧ (s.loseTrust c).link = s.link ∧ (s.loseTrust c).pool = s.pool
      ∧ (s.loseTrust c).rx = s.rx ∧ (s.loseTrust c).tx = s.tx ∧ (s.loseTrust c).table = s.table
      ∧ (s.loseTrust c).time = s.time ∧ (s.loseTrust c).cmd = s.cmd ∧ (s.loseTrust c).downstream = s.downstream
      ∧ (s.loseTrust c).choices = s.choices ∧ (s.loseTrust c).pending = s.pending := by
  unfold State.loseTrust
  split <;> simp

@[simp] theorem State.disarm_frame (c : RunCause) :
    (s.disarm c).resetn = s.resetn ∧ (s.disarm c).link = s.link ∧ (s.disarm c).pool = s.pool ∧ (s.disarm c).rx = s.rx
      ∧ (s.disarm c).tx = s.tx ∧ (s.disarm c).table = s.table ∧ (s.disarm c).time = s.time
      ∧ (s.disarm c).steps = s.steps ∧ (s.disarm c).cmd = s.cmd ∧ (s.disarm c).downstream = s.downstream
      ∧ (s.disarm c).choices = s.choices ∧ (s.disarm c).pending = s.pending := by
  unfold State.disarm
  split <;> simp

@[simp] theorem State.softReset_frame :
    (s.softReset).resetn = s.resetn ∧ (s.softReset).link = s.link ∧ (s.softReset).pool = s.pool
      ∧ (s.softReset).rx = s.rx ∧ (s.softReset).tx = s.tx ∧ (s.softReset).table = s.table
      ∧ (s.softReset).time = s.time ∧ (s.softReset).cmd = s.cmd ∧ (s.softReset).downstream = s.downstream
      ∧ (s.softReset).choices = s.choices ∧ (s.softReset).pending = s.pending := by
  unfold State.softReset
  split <;> simp

@[simp] theorem State.acceptStep_frame (st : Step) :
    (s.acceptStep st).resetn = s.resetn ∧ (s.acceptStep st).link = s.link ∧ (s.acceptStep st).pool = s.pool
      ∧ (s.acceptStep st).rx = s.rx ∧ (s.acceptStep st).tx = s.tx ∧ (s.acceptStep st).table = s.table
      ∧ (s.acceptStep st).time = s.time ∧ (s.acceptStep st).run = s.run ∧ (s.acceptStep st).cmd = s.cmd
      ∧ (s.acceptStep st).downstream = s.downstream ∧ (s.acceptStep st).choices = s.choices
      ∧ (s.acceptStep st).pending = s.pending := by
  unfold State.acceptStep
  split <;> (try split) <;> simp

@[simp] theorem State.offerStep_frame (st : Step) :
    (s.offerStep st).resetn = s.resetn ∧ (s.offerStep st).link = s.link ∧ (s.offerStep st).pool = s.pool
      ∧ (s.offerStep st).rx = s.rx ∧ (s.offerStep st).tx = s.tx ∧ (s.offerStep st).table = s.table
      ∧ (s.offerStep st).time = s.time ∧ (s.offerStep st).run = s.run ∧ (s.offerStep st).cmd = s.cmd
      ∧ (s.offerStep st).downstream = s.downstream ∧ (s.offerStep st).choices = s.choices
      ∧ (s.offerStep st).pending = s.pending := by
  unfold State.offerStep
  split <;> simp

@[simp] theorem State.offerSteps_frame (sts : List Step) :
    (sts.foldl State.offerStep s).resetn = s.resetn ∧ (sts.foldl State.offerStep s).link = s.link
      ∧ (sts.foldl State.offerStep s).pool = s.pool ∧ (sts.foldl State.offerStep s).rx = s.rx
      ∧ (sts.foldl State.offerStep s).tx = s.tx ∧ (sts.foldl State.offerStep s).table = s.table
      ∧ (sts.foldl State.offerStep s).time = s.time ∧ (sts.foldl State.offerStep s).run = s.run
      ∧ (sts.foldl State.offerStep s).cmd = s.cmd ∧ (sts.foldl State.offerStep s).downstream = s.downstream
      ∧ (sts.foldl State.offerStep s).choices = s.choices ∧ (sts.foldl State.offerStep s).pending = s.pending := by
  induction sts generalizing s with
  | nil => simp
  | cons st sts ih => simp [ih]

@[simp] theorem State.offerSchedule_frame (i : Fin 9) (q : Word16) (p : List Octet) :
    (s.offerSchedule i q p).resetn = s.resetn ∧ (s.offerSchedule i q p).link = s.link
      ∧ (s.offerSchedule i q p).pool = s.pool ∧ (s.offerSchedule i q p).rx = s.rx ∧ (s.offerSchedule i q p).tx = s.tx
      ∧ (s.offerSchedule i q p).table = s.table ∧ (s.offerSchedule i q p).time = s.time
      ∧ (s.offerSchedule i q p).run = s.run ∧ (s.offerSchedule i q p).cmd = s.cmd
      ∧ (s.offerSchedule i q p).downstream = s.downstream ∧ (s.offerSchedule i q p).choices = s.choices
      ∧ (s.offerSchedule i q p).pending = s.pending := by
  unfold State.offerSchedule
  split <;> simp

@[simp] theorem State.takeSchedule_frame (i : Fin 9) (f : Frame) :
    (s.takeSchedule i f).resetn = s.resetn ∧ (s.takeSchedule i f).link = s.link ∧ (s.takeSchedule i f).pool = s.pool
      ∧ (s.takeSchedule i f).tx = s.tx ∧ (s.takeSchedule i f).time = s.time ∧ (s.takeSchedule i f).run = s.run
      ∧ (s.takeSchedule i f).cmd = s.cmd ∧ (s.takeSchedule i f).downstream = s.downstream
      ∧ (s.takeSchedule i f).choices = s.choices ∧ (s.takeSchedule i f).pending = s.pending := by
  unfold State.takeSchedule
  simp only []
  split <;> simp

@[simp] theorem State.takeDue_frame :
    (s.takeDue).resetn = s.resetn ∧ (s.takeDue).link = s.link ∧ (s.takeDue).pool = s.pool ∧ (s.takeDue).rx = s.rx
      ∧ (s.takeDue).tx = s.tx ∧ (s.takeDue).table = s.table ∧ (s.takeDue).time = s.time ∧ (s.takeDue).run = s.run
      ∧ (s.takeDue).cmd = s.cmd ∧ (s.takeDue).downstream = s.downstream ∧ (s.takeDue).choices = s.choices
      ∧ (s.takeDue).pending = s.pending := by
  unfold State.takeDue
  split <;> (try split) <;> (try split) <;> simp

@[simp] theorem State.overtake_frame (st : Step) :
    (s.overtake st).resetn = s.resetn ∧ (s.overtake st).link = s.link ∧ (s.overtake st).pool = s.pool
      ∧ (s.overtake st).rx = s.rx ∧ (s.overtake st).tx = s.tx ∧ (s.overtake st).table = s.table
      ∧ (s.overtake st).time = s.time ∧ (s.overtake st).run = s.run ∧ (s.overtake st).cmd = s.cmd
      ∧ (s.overtake st).downstream = s.downstream ∧ (s.overtake st).choices = s.choices
      ∧ (s.overtake st).pending = s.pending := by
  unfold State.overtake
  simp only []
  split <;> (try split) <;> simp

@[simp] theorem State.overtakeAll_frame (sts : List Step) :
    (sts.foldl State.overtake s).resetn = s.resetn ∧ (sts.foldl State.overtake s).link = s.link
      ∧ (sts.foldl State.overtake s).pool = s.pool ∧ (sts.foldl State.overtake s).rx = s.rx
      ∧ (sts.foldl State.overtake s).tx = s.tx ∧ (sts.foldl State.overtake s).table = s.table
      ∧ (sts.foldl State.overtake s).time = s.time ∧ (sts.foldl State.overtake s).run = s.run
      ∧ (sts.foldl State.overtake s).cmd = s.cmd ∧ (sts.foldl State.overtake s).downstream = s.downstream
      ∧ (sts.foldl State.overtake s).choices = s.choices ∧ (sts.foldl State.overtake s).pending = s.pending := by
  induction sts generalizing s with
  | nil => simp
  | cons st sts ih => simp [ih]

@[simp] theorem State.forwardStep_frame :
    (s.forwardStep).resetn = s.resetn ∧ (s.forwardStep).link = s.link ∧ (s.forwardStep).pool = s.pool
      ∧ (s.forwardStep).rx = s.rx ∧ (s.forwardStep).tx = s.tx ∧ (s.forwardStep).table = s.table
      ∧ (s.forwardStep).time = s.time ∧ (s.forwardStep).run = s.run ∧ (s.forwardStep).cmd = s.cmd
      ∧ (s.forwardStep).downstream = s.downstream ∧ (s.forwardStep).choices = s.choices
      ∧ (s.forwardStep).pending = s.pending := by
  simp [State.forwardStep]

@[simp] theorem State.backwardStep_frame :
    (s.backwardStep).resetn = s.resetn ∧ (s.backwardStep).link = s.link ∧ (s.backwardStep).pool = s.pool
      ∧ (s.backwardStep).rx = s.rx ∧ (s.backwardStep).tx = s.tx ∧ (s.backwardStep).table = s.table
      ∧ (s.backwardStep).time = s.time ∧ (s.backwardStep).out = s.out ∧ (s.backwardStep).run = s.run
      ∧ (s.backwardStep).cmd = s.cmd ∧ (s.backwardStep).downstream = s.downstream
      ∧ (s.backwardStep).choices = s.choices ∧ (s.backwardStep).pending = s.pending := by
  simp [State.backwardStep]

@[simp] theorem State.queueTimeStep_frame (a : Int) :
    (s.queueTimeStep a).resetn = s.resetn ∧ (s.queueTimeStep a).link = s.link ∧ (s.queueTimeStep a).pool = s.pool
      ∧ (s.queueTimeStep a).rx = s.rx ∧ (s.queueTimeStep a).tx = s.tx ∧ (s.queueTimeStep a).table = s.table
      ∧ (s.queueTimeStep a).time = s.time ∧ (s.queueTimeStep a).run = s.run ∧ (s.queueTimeStep a).cmd = s.cmd
      ∧ (s.queueTimeStep a).downstream = s.downstream ∧ (s.queueTimeStep a).choices = s.choices
      ∧ (s.queueTimeStep a).pending = s.pending := by
  unfold State.queueTimeStep
  split <;> (try split) <;> simp

@[simp] theorem State.stepTime_frame (x : Word32) (e : Octet) (y : SyncState) (g : Nat) :
    (s.stepTime x e y g).resetn = s.resetn ∧ (s.stepTime x e y g).link = s.link ∧ (s.stepTime x e y g).pool = s.pool
      ∧ (s.stepTime x e y g).rx = s.rx ∧ (s.stepTime x e y g).tx = s.tx ∧ (s.stepTime x e y g).table = s.table
      ∧ (s.stepTime x e y g).run = s.run ∧ (s.stepTime x e y g).cmd = s.cmd
      ∧ (s.stepTime x e y g).downstream = s.downstream ∧ (s.stepTime x e y g).choices = s.choices
      ∧ (s.stepTime x e y g).pending = s.pending := by
  unfold State.stepTime
  simp only []
  split <;> split <;> simp

@[simp] theorem State.lockOn_frame (o : Int) :
    (s.lockOn o).resetn = s.resetn ∧ (s.lockOn o).link = s.link ∧ (s.lockOn o).pool = s.pool ∧ (s.lockOn o).rx = s.rx
      ∧ (s.lockOn o).tx = s.tx ∧ (s.lockOn o).table = s.table ∧ (s.lockOn o).steps = s.steps
      ∧ (s.lockOn o).out = s.out ∧ (s.lockOn o).run = s.run ∧ (s.lockOn o).cmd = s.cmd
      ∧ (s.lockOn o).downstream = s.downstream ∧ (s.lockOn o).choices = s.choices ∧ (s.lockOn o).pending = s.pending := by
  unfold State.lockOn
  simp only []
  split <;> simp

@[simp] theorem State.judgeMark_frame (x : Word32) (e : Octet) :
    (s.judgeMark x e).resetn = s.resetn ∧ (s.judgeMark x e).link = s.link ∧ (s.judgeMark x e).pool = s.pool
      ∧ (s.judgeMark x e).rx = s.rx ∧ (s.judgeMark x e).tx = s.tx ∧ (s.judgeMark x e).table = s.table
      ∧ (s.judgeMark x e).run = s.run ∧ (s.judgeMark x e).cmd = s.cmd ∧ (s.judgeMark x e).downstream = s.downstream
      ∧ (s.judgeMark x e).choices = s.choices ∧ (s.judgeMark x e).pending = s.pending := by
  unfold State.judgeMark
  simp only []
  split <;> (try split) <;> (try split) <;> (try split) <;> simp

@[simp] theorem State.takeMark_frame (m : Word32) (e h : Octet) :
    (s.takeMark m e h).resetn = s.resetn ∧ (s.takeMark m e h).link = s.link ∧ (s.takeMark m e h).pool = s.pool
      ∧ (s.takeMark m e h).rx = s.rx ∧ (s.takeMark m e h).tx = s.tx ∧ (s.takeMark m e h).table = s.table
      ∧ (s.takeMark m e h).run = s.run ∧ (s.takeMark m e h).cmd = s.cmd ∧ (s.takeMark m e h).downstream = s.downstream
      ∧ (s.takeMark m e h).choices = s.choices ∧ (s.takeMark m e h).pending = s.pending := by
  simp [State.takeMark]

@[simp] theorem State.takeMarkFrame_frame (f : Frame) :
    (s.takeMarkFrame f).resetn = s.resetn ∧ (s.takeMarkFrame f).link = s.link ∧ (s.takeMarkFrame f).pool = s.pool
      ∧ (s.takeMarkFrame f).rx = s.rx ∧ (s.takeMarkFrame f).tx = s.tx ∧ (s.takeMarkFrame f).table = s.table
      ∧ (s.takeMarkFrame f).run = s.run ∧ (s.takeMarkFrame f).cmd = s.cmd
      ∧ (s.takeMarkFrame f).downstream = s.downstream ∧ (s.takeMarkFrame f).choices = s.choices
      ∧ (s.takeMarkFrame f).pending = s.pending := by
  unfold State.takeMarkFrame
  split <;> simp

@[simp] theorem State.enterUnsynced_frame :
    (s.enterUnsynced).resetn = s.resetn ∧ (s.enterUnsynced).link = s.link ∧ (s.enterUnsynced).pool = s.pool
      ∧ (s.enterUnsynced).rx = s.rx ∧ (s.enterUnsynced).tx = s.tx ∧ (s.enterUnsynced).table = s.table
      ∧ (s.enterUnsynced).cmd = s.cmd ∧ (s.enterUnsynced).downstream = s.downstream
      ∧ (s.enterUnsynced).choices = s.choices ∧ (s.enterUnsynced).pending = s.pending := by
  simp [State.enterUnsynced]

@[simp] theorem State.expireMarkTimer_frame :
    (s.expireMarkTimer).resetn = s.resetn ∧ (s.expireMarkTimer).link = s.link ∧ (s.expireMarkTimer).pool = s.pool
      ∧ (s.expireMarkTimer).rx = s.rx ∧ (s.expireMarkTimer).tx = s.tx ∧ (s.expireMarkTimer).table = s.table
      ∧ (s.expireMarkTimer).cmd = s.cmd ∧ (s.expireMarkTimer).downstream = s.downstream
      ∧ (s.expireMarkTimer).choices = s.choices ∧ (s.expireMarkTimer).pending = s.pending := by
  unfold State.expireMarkTimer
  split <;> (try split) <;> simp

@[simp] theorem State.expireHoldoverTimer_frame :
    (s.expireHoldoverTimer).resetn = s.resetn ∧ (s.expireHoldoverTimer).link = s.link
      ∧ (s.expireHoldoverTimer).pool = s.pool ∧ (s.expireHoldoverTimer).rx = s.rx ∧ (s.expireHoldoverTimer).tx = s.tx
      ∧ (s.expireHoldoverTimer).table = s.table ∧ (s.expireHoldoverTimer).cmd = s.cmd
      ∧ (s.expireHoldoverTimer).downstream = s.downstream ∧ (s.expireHoldoverTimer).choices = s.choices
      ∧ (s.expireHoldoverTimer).pending = s.pending := by
  unfold State.expireHoldoverTimer
  split <;> (try split) <;> simp

@[simp] theorem State.completeStartUp_frame :
    (s.completeStartUp).resetn = s.resetn ∧ (s.completeStartUp).link = s.link ∧ (s.completeStartUp).pool = s.pool
      ∧ (s.completeStartUp).rx = s.rx ∧ (s.completeStartUp).table = s.table ∧ (s.completeStartUp).time = s.time
      ∧ (s.completeStartUp).steps = s.steps ∧ (s.completeStartUp).out = s.out ∧ (s.completeStartUp).run = s.run
      ∧ (s.completeStartUp).cmd = s.cmd ∧ (s.completeStartUp).events = s.events
      ∧ (s.completeStartUp).downstream = s.downstream ∧ (s.completeStartUp).choices = s.choices
      ∧ (s.completeStartUp).pending = s.pending := by
  unfold State.completeStartUp
  split <;> simp

@[simp] theorem State.leaveBypass_frame :
    (s.leaveBypass).resetn = s.resetn ∧ (s.leaveBypass).link = s.link ∧ (s.leaveBypass).pool = s.pool
      ∧ (s.leaveBypass).rx = s.rx ∧ (s.leaveBypass).table = s.table ∧ (s.leaveBypass).time = s.time
      ∧ (s.leaveBypass).steps = s.steps ∧ (s.leaveBypass).out = s.out ∧ (s.leaveBypass).run = s.run
      ∧ (s.leaveBypass).cmd = s.cmd ∧ (s.leaveBypass).events = s.events ∧ (s.leaveBypass).downstream = s.downstream
      ∧ (s.leaveBypass).choices = s.choices ∧ (s.leaveBypass).pending = s.pending := by
  unfold State.leaveBypass
  split <;> simp

@[simp] theorem State.mirror_frame (x : Symbol) :
    (s.mirror x).resetn = s.resetn ∧ (s.mirror x).link = s.link ∧ (s.mirror x).pool = s.pool ∧ (s.mirror x).rx = s.rx
      ∧ (s.mirror x).tx = s.tx ∧ (s.mirror x).table = s.table ∧ (s.mirror x).time = s.time
      ∧ (s.mirror x).steps = s.steps ∧ (s.mirror x).out = s.out ∧ (s.mirror x).run = s.run ∧ (s.mirror x).cmd = s.cmd
      ∧ (s.mirror x).events = s.events ∧ (s.mirror x).choices = s.choices ∧ (s.mirror x).pending = s.pending := by
  unfold State.mirror
  split <;> simp

@[simp] theorem State.enterInSync_frame :
    (s.enterInSync).resetn = s.resetn ∧ (s.enterInSync).pool = s.pool ∧ (s.enterInSync).rx = s.rx
      ∧ (s.enterInSync).tx = s.tx ∧ (s.enterInSync).table = s.table ∧ (s.enterInSync).time = s.time
      ∧ (s.enterInSync).steps = s.steps ∧ (s.enterInSync).out = s.out ∧ (s.enterInSync).run = s.run
      ∧ (s.enterInSync).cmd = s.cmd ∧ (s.enterInSync).downstream = s.downstream ∧ (s.enterInSync).choices = s.choices
      ∧ (s.enterInSync).pending = s.pending := by
  unfold State.enterInSync
  simp only []
  split <;> simp

@[simp] theorem State.hunt_frame (x : Symbol) :
    (s.hunt x).resetn = s.resetn ∧ (s.hunt x).pool = s.pool ∧ (s.hunt x).rx = s.rx ∧ (s.hunt x).tx = s.tx
      ∧ (s.hunt x).table = s.table ∧ (s.hunt x).time = s.time ∧ (s.hunt x).steps = s.steps ∧ (s.hunt x).out = s.out
      ∧ (s.hunt x).run = s.run ∧ (s.hunt x).cmd = s.cmd ∧ (s.hunt x).downstream = s.downstream
      ∧ (s.hunt x).choices = s.choices ∧ (s.hunt x).pending = s.pending := by
  unfold State.hunt
  split <;> (try split) <;> simp

@[simp] theorem State.trackBracket_frame (x : Symbol) :
    (s.trackBracket x).resetn = s.resetn ∧ (s.trackBracket x).pool = s.pool ∧ (s.trackBracket x).rx = s.rx
      ∧ (s.trackBracket x).tx = s.tx ∧ (s.trackBracket x).table = s.table ∧ (s.trackBracket x).time = s.time
      ∧ (s.trackBracket x).steps = s.steps ∧ (s.trackBracket x).out = s.out ∧ (s.trackBracket x).run = s.run
      ∧ (s.trackBracket x).cmd = s.cmd ∧ (s.trackBracket x).events = s.events
      ∧ (s.trackBracket x).downstream = s.downstream ∧ (s.trackBracket x).choices = s.choices
      ∧ (s.trackBracket x).pending = s.pending := by
  unfold State.trackBracket
  split <;> simp

@[simp] theorem State.claim_frame :
    (s.claim).resetn = s.resetn ∧ (s.claim).tx = s.tx ∧ (s.claim).table = s.table ∧ (s.claim).time = s.time
      ∧ (s.claim).steps = s.steps ∧ (s.claim).out = s.out ∧ (s.claim).run = s.run ∧ (s.claim).cmd = s.cmd
      ∧ (s.claim).downstream = s.downstream ∧ (s.claim).choices = s.choices ∧ (s.claim).pending = s.pending := by
  unfold State.claim
  split <;> simp

@[simp] theorem State.countInvalid_frame :
    (s.countInvalid).resetn = s.resetn ∧ (s.countInvalid).pool = s.pool ∧ (s.countInvalid).rx = s.rx
      ∧ (s.countInvalid).tx = s.tx ∧ (s.countInvalid).table = s.table ∧ (s.countInvalid).time = s.time
      ∧ (s.countInvalid).steps = s.steps ∧ (s.countInvalid).out = s.out ∧ (s.countInvalid).run = s.run
      ∧ (s.countInvalid).cmd = s.cmd ∧ (s.countInvalid).events = s.events ∧ (s.countInvalid).downstream = s.downstream
      ∧ (s.countInvalid).choices = s.choices ∧ (s.countInvalid).pending = s.pending := by
  unfold State.countInvalid
  split <;> simp

@[simp] theorem State.loseActivity_frame :
    (s.loseActivity).resetn = s.resetn ∧ (s.loseActivity).tx = s.tx ∧ (s.loseActivity).table = s.table
      ∧ (s.loseActivity).time = s.time ∧ (s.loseActivity).steps = s.steps ∧ (s.loseActivity).out = s.out
      ∧ (s.loseActivity).run = s.run ∧ (s.loseActivity).cmd = s.cmd ∧ (s.loseActivity).downstream = s.downstream
      ∧ (s.loseActivity).choices = s.choices ∧ (s.loseActivity).pending = s.pending := by
  unfold State.loseActivity
  simp only []
  split <;> (try split) <;> (try split) <;> simp

@[simp] theorem State.expireLinkTimer_frame :
    (s.expireLinkTimer).resetn = s.resetn ∧ (s.expireLinkTimer).pool = s.pool ∧ (s.expireLinkTimer).rx = s.rx
      ∧ (s.expireLinkTimer).tx = s.tx ∧ (s.expireLinkTimer).table = s.table ∧ (s.expireLinkTimer).time = s.time
      ∧ (s.expireLinkTimer).cmd = s.cmd ∧ (s.expireLinkTimer).downstream = s.downstream
      ∧ (s.expireLinkTimer).choices = s.choices ∧ (s.expireLinkTimer).pending = s.pending := by
  unfold State.expireLinkTimer
  split <;> simp

@[simp] theorem State.takeTransition_frame (id : BankId) :
    (s.takeTransition id).resetn = s.resetn ∧ (s.takeTransition id).link = s.link
      ∧ (s.takeTransition id).pool = s.pool ∧ (s.takeTransition id).rx = s.rx ∧ (s.takeTransition id).tx = s.tx
      ∧ (s.takeTransition id).table = s.table ∧ (s.takeTransition id).time = s.time
      ∧ (s.takeTransition id).steps = s.steps ∧ (s.takeTransition id).run = s.run ∧ (s.takeTransition id).cmd = s.cmd
      ∧ (s.takeTransition id).events = s.events ∧ (s.takeTransition id).downstream = s.downstream
      ∧ (s.takeTransition id).choices = s.choices ∧ (s.takeTransition id).pending = s.pending := by
  unfold State.takeTransition
  split <;> simp

@[simp] theorem State.takePulse_frame (id : BankId) (i : Fin 8) :
    (s.takePulse id i).resetn = s.resetn ∧ (s.takePulse id i).link = s.link ∧ (s.takePulse id i).pool = s.pool
      ∧ (s.takePulse id i).rx = s.rx ∧ (s.takePulse id i).tx = s.tx ∧ (s.takePulse id i).table = s.table
      ∧ (s.takePulse id i).time = s.time ∧ (s.takePulse id i).steps = s.steps ∧ (s.takePulse id i).run = s.run
      ∧ (s.takePulse id i).cmd = s.cmd ∧ (s.takePulse id i).events = s.events
      ∧ (s.takePulse id i).downstream = s.downstream ∧ (s.takePulse id i).choices = s.choices
      ∧ (s.takePulse id i).pending = s.pending := by
  unfold State.takePulse
  split <;> simp

@[simp] theorem State.takeCadenceEdge_frame (id : BankId) (i : Fin 8) :
    (s.takeCadenceEdge id i).resetn = s.resetn ∧ (s.takeCadenceEdge id i).link = s.link
      ∧ (s.takeCadenceEdge id i).pool = s.pool ∧ (s.takeCadenceEdge id i).rx = s.rx
      ∧ (s.takeCadenceEdge id i).tx = s.tx ∧ (s.takeCadenceEdge id i).table = s.table
      ∧ (s.takeCadenceEdge id i).time = s.time ∧ (s.takeCadenceEdge id i).steps = s.steps
      ∧ (s.takeCadenceEdge id i).run = s.run ∧ (s.takeCadenceEdge id i).cmd = s.cmd
      ∧ (s.takeCadenceEdge id i).events = s.events ∧ (s.takeCadenceEdge id i).downstream = s.downstream
      ∧ (s.takeCadenceEdge id i).choices = s.choices ∧ (s.takeCadenceEdge id i).pending = s.pending := by
  unfold State.takeCadenceEdge
  split <;> simp

@[simp] theorem State.takeExpiry_frame (e : Expiry) :
    (s.takeExpiry e).resetn = s.resetn ∧ (s.takeExpiry e).table = s.table ∧ (s.takeExpiry e).cmd = s.cmd
      ∧ (s.takeExpiry e).downstream = s.downstream ∧ (s.takeExpiry e).choices = s.choices
      ∧ (s.takeExpiry e).pending = s.pending := by
  cases e <;> simp [State.takeExpiry]

@[simp] theorem State.repeatFrame_frame (b : Buffer) :
    (s.repeatFrame b).resetn = s.resetn ∧ (s.repeatFrame b).link = s.link ∧ (s.repeatFrame b).table = s.table
      ∧ (s.repeatFrame b).time = s.time ∧ (s.repeatFrame b).steps = s.steps ∧ (s.repeatFrame b).out = s.out
      ∧ (s.repeatFrame b).run = s.run ∧ (s.repeatFrame b).cmd = s.cmd ∧ (s.repeatFrame b).events = s.events
      ∧ (s.repeatFrame b).downstream = s.downstream ∧ (s.repeatFrame b).choices = s.choices
      ∧ (s.repeatFrame b).pending = s.pending := by
  unfold State.repeatFrame
  split <;> simp

@[simp] theorem State.sendIdle_frame :
    (s.sendIdle).resetn = s.resetn ∧ (s.sendIdle).link = s.link ∧ (s.sendIdle).pool = s.pool ∧ (s.sendIdle).rx = s.rx
      ∧ (s.sendIdle).table = s.table ∧ (s.sendIdle).time = s.time ∧ (s.sendIdle).steps = s.steps
      ∧ (s.sendIdle).out = s.out ∧ (s.sendIdle).run = s.run ∧ (s.sendIdle).cmd = s.cmd
      ∧ (s.sendIdle).events = s.events ∧ (s.sendIdle).choices = s.choices ∧ (s.sendIdle).pending = s.pending := by
  unfold State.sendIdle
  simp only []
  split <;> (try split) <;> simp

@[simp] theorem State.finishFrame_frame (b : Buffer) (t : Tag) :
    (s.finishFrame b t).resetn = s.resetn ∧ (s.finishFrame b t).link = s.link ∧ (s.finishFrame b t).rx = s.rx
      ∧ (s.finishFrame b t).table = s.table ∧ (s.finishFrame b t).time = s.time ∧ (s.finishFrame b t).steps = s.steps
      ∧ (s.finishFrame b t).out = s.out ∧ (s.finishFrame b t).run = s.run ∧ (s.finishFrame b t).cmd = s.cmd
      ∧ (s.finishFrame b t).events = s.events ∧ (s.finishFrame b t).choices = s.choices
      ∧ (s.finishFrame b t).pending = s.pending := by
  unfold State.finishFrame
  simp only []
  split <;> simp

end Sys2Proof.Machine
end

