-- ==== Sys2Proof/Laws/Banks.lean ====
section
/-! SUPPORT. The Output Unit: sets of lines, writing one bank, and what the operations on a bank leave alone. -/

namespace Sys2Proof.Machine

/-! ## Sets of lines -/

variable (x y : Octet) (i j : Fin 8)

@[simp] theorem inSet_and : inSet (x &&& y) i = (inSet x i && inSet y i) := by simp [inSet]

@[simp] theorem inSet_or : inSet (x ||| y) i = (inSet x i || inSet y i) := by simp [inSet]

@[simp] theorem inSet_not : inSet (~~~x) i = !inSet x i := by simp [inSet]

@[simp] theorem inSet_zero : inSet 0 i = false := by simp [inSet]

@[simp] theorem inSet_all : inSet 0xFF#8 i = true := by
  revert i
  decide

@[simp] theorem inSet_lineSet : inSet (lineSet i) j = decide (i = j) := by
  revert i j
  decide

/-- Sets with the same lines are equal. -/
theorem ext_inSet (h : ∀ i : Fin 8, inSet x i = inSet y i) : x = y := by
  ext i hi
  simpa [inSet, BitVec.getLsbD_eq_getElem, hi] using h ⟨i, hi⟩

/-! ## The three banks -/

variable (o : OutputUnit) (id id' : BankId) (b : Bank)

@[simp] theorem OutputUnit.bank_setBank_same : (o.setBank id b).bank id = b := by cases id <;> rfl

theorem OutputUnit.bank_setBank_other (h : id ≠ id') : (o.setBank id b).bank id' = o.bank id' := by
  cases id <;> cases id' <;> first | rfl | exact absurd rfl h

@[simp] theorem OutputUnit.bank_safeAll : o.safeAll.bank id = (o.bank id).safeTransition := by cases id <;> rfl

@[simp] theorem OutputUnit.bank_tick : o.tick.bank id = (o.bank id).tick := by cases id <;> rfl

/-- A property of every bank is one of each of the three. -/
theorem OutputUnit.forall_bank (P : Bank → Prop) :
    (∀ id, P (o.bank id)) ↔ P o.bankA ∧ P o.bankB ∧ P o.bankC :=
  ⟨fun h => ⟨h .a, h .b, h .c⟩, fun ⟨ha, hb, hc⟩ id => by cases id <;> assumption⟩

/-- What holds of the three banks still holds when one is written with a bank of which it holds. -/
theorem OutputUnit.forall_bank_setBank (P : Bank → Prop) (h : ∀ id, P (o.bank id)) (hb : P b) :
    ∀ id', P ((o.setBank id b).bank id') := by
  intro id'
  by_cases same : id = id'
  · subst same; simpa using hb
  · rw [OutputUnit.bank_setBank_other o id id' b same]; exact h id'

/-! ## The kept fields of a bank (R107) -/

variable (p : BankStep)

theorem Bank.startPulses_kept (m : Octet) (r : Bool) :
    (b.startPulses p m r).latch = b.latch ∧ (b.startPulses p m r).transition = b.transition
      ∧ (b.startPulses p m r).safePattern = b.safePattern ∧ (b.startPulses p m r).deadTime = b.deadTime := by
  unfold Bank.startPulses
  split <;> simp

/-- No step changes a safe pattern or a dead time. -/
@[simp] theorem Bank.applyStep_kept :
    (b.applyStep p).safePattern = b.safePattern ∧ (b.applyStep p).deadTime = b.deadTime := by
  obtain ⟨_, _, hs, hd⟩ := Bank.startPulses_kept (b.breakLines p) p (p.breaks &&& b.latch) true
  have place : ∀ (c : Bank) (m : Octet),
      (c.placeMakes p m).safePattern = c.safePattern ∧ (c.placeMakes p m).deadTime = c.deadTime := by
    intro c m
    unfold Bank.placeMakes
    split
    · simp
    · split
      · split <;> simp
      · obtain ⟨_, _, hs, hd⟩ := Bank.startPulses_kept { c with latch := c.latch ||| m } p m false
        exact ⟨hs, hd⟩
  obtain ⟨ps, pd⟩ := place ((b.breakLines p).startPulses p (p.breaks &&& b.latch) true)
    (p.makes ((b.breakLines p).startPulses p (p.breaks &&& b.latch) true).latch)
  exact ⟨ps.trans (hs.trans rfl), pd.trans (hd.trans rfl)⟩

/-- The lines with an outstanding revert to 1 under PLAIN. -/
@[simp] theorem Bank.inSet_plainReverts : inSet b.plainReverts i = decide (b.lines[i] = .pulse true 0 .plain) := by
  simp only [Bank.plainReverts, List.finRange, List.ofFn_succ, List.ofFn_zero, List.foldl_cons, List.foldl_nil]
  have pick : ∀ (c : Prop) [Decidable c] (x : Octet) (j : Fin 8),
      inSet (if c then x ||| lineSet j else x) i = (inSet x i || (decide c && decide (j = i))) := by
    intro c _ x j
    split <;> simp_all
  simp only [pick, inSet_zero]
  fin_cases i <;> simp

/-- No pulse's expiry changes a safe pattern or a dead time. -/
@[simp] theorem Bank.expirePulse_kept :
    (b.expirePulse i).safePattern = b.safePattern ∧ (b.expirePulse i).deadTime = b.deadTime := by
  unfold Bank.expirePulse Bank.takePlainReverts
  split
  · simp only []
    split <;> simp
  · simp
  · simp

@[simp] theorem Bank.tick_kept :
    b.tick.latch = b.latch ∧ b.tick.safePattern = b.safePattern ∧ b.tick.deadTime = b.deadTime := ⟨rfl, rfl, rfl⟩

@[simp] theorem Bank.expireTransition_kept :
    b.expireTransition.safePattern = b.safePattern ∧ b.expireTransition.deadTime = b.deadTime
      ∧ b.expireTransition.transition = none := by
  unfold Bank.expireTransition
  split <;> simp_all

@[simp] theorem Bank.takeEdge_kept :
    (b.takeEdge i).safePattern = b.safePattern ∧ (b.takeEdge i).deadTime = b.deadTime
      ∧ (b.takeEdge i).transition = b.transition := by
  unfold Bank.takeEdge
  split <;> simp

@[simp] theorem Bank.startCadence_kept (period onTime : Nat) :
    (b.startCadence i period onTime).safePattern = b.safePattern
      ∧ (b.startCadence i period onTime).deadTime = b.deadTime := ⟨rfl, rfl⟩

/-! ## Expiries are taken once (R114, R117, R119) -/

@[simp] theorem Bank.expireTransition_notDue : b.expireTransition.transitionDue = false := by
  simp [Bank.transitionDue]

end Sys2Proof.Machine
end

