-- ==== Sys2Proof/Laws/Numbers.lean ====
section
/-! SUPPORT. Numbers as octets, the CRC and the comparison of times: what reading and writing them gives. -/

namespace Sys2Proof.Machine

/-! ## Octets -/

@[simp] theorem octets16_length (w : Word16) : (octets16 w).length = 2 := rfl

@[simp] theorem octets32_length (w : Word32) : (octets32 w).length = 4 := rfl

theorem word16_of_octets (w : Word16) : word16 (w.extractLsb' 8 8) (w.extractLsb' 0 8) = w := by
  unfold word16
  ext i hi
  simp only [BitVec.getElem_append, BitVec.getElem_extractLsb']
  split
  · simp [BitVec.getLsbD_eq_getElem (show i < 16 by omega)]
  · simp [show 8 + (i - 8) = i by omega, BitVec.getLsbD_eq_getElem hi]

/-- Any two octets are those of the number they spell. -/
theorem octets16_of_word16 (hi lo : Octet) : octets16 (word16 hi lo) = [hi, lo] := by
  unfold octets16 word16
  congr 1
  · exact BitVec.extractLsb'_append_eq_left
  · congr 1
    exact BitVec.extractLsb'_append_eq_right

theorem word32_of_octets (w : Word32) :
    word32 (w.extractLsb' 24 8) (w.extractLsb' 16 8) (w.extractLsb' 8 8) (w.extractLsb' 0 8) = w := by
  unfold word32 word16
  ext i hi
  simp only [BitVec.getElem_append, BitVec.getElem_extractLsb']
  split
  · split
    · simp [BitVec.getLsbD_eq_getElem (show i < 32 by omega)]
    · simp [show 8 + (i - 8) = i by omega, BitVec.getLsbD_eq_getElem hi]
  · split
    · simp [show 16 + (i - 16) = i by omega, BitVec.getLsbD_eq_getElem hi]
    · simp [show 24 + (i - 16 - 8) = i by omega, BitVec.getLsbD_eq_getElem hi]

/-! ## The CRC (R9) -/

/-- One bit of the CRC is linear. -/
theorem crcBit_xor (a b : Word16) : crcBit (a ^^^ b) = crcBit a ^^^ crcBit b := by
  unfold crcBit
  rw [BitVec.msb_xor, BitVec.shiftLeft_xor_distrib]
  cases a.msb <;> cases b.msb <;> simp [BitVec.xor_assoc, BitVec.xor_comm]; ac_rfl

theorem crc_append (xs ys : List Octet) : crc (xs ++ ys) = ys.foldl crcOctet (crc xs) := by
  simp [crc]

/-- The high octet of the register, fed into it, leaves the low octet in the high place. -/
theorem crcOctet_high (hi lo : Octet) : crcOctet (hi ++ lo) hi = lo ++ 0#8 := by
  have cancel : (hi ++ lo : BitVec 16) ^^^ (hi ++ 0#8) = 0#8 ++ lo := by
    ext i h
    simp only [BitVec.getElem_xor, BitVec.getElem_append]
    split <;> simp
  have shifted : ∀ o : Octet,
      crcBit (crcBit (crcBit (crcBit (crcBit (crcBit (crcBit (crcBit (0#8 ++ o)))))))) = o ++ 0#8 := by decide +kernel
  rw [crcOctet, cancel]
  exact shifted lo

theorem crcOctet_self (o : Octet) : crcOctet (o ++ 0#8) o = 0 := by
  rw [crcOctet_high]
  rfl

/-- The two octets of the register bring it to 0: the check sequence of R9. -/
theorem crc_append_octets16_crc (xs : List Octet) : crc (xs ++ octets16 (crc xs)) = 0 := by
  rw [crc_append]
  generalize crc xs = r
  have split : r = r.extractLsb' 8 8 ++ r.extractLsb' 0 8 := (word16_of_octets r).symm
  have first : crcOctet r (r.extractLsb' 8 8) = r.extractLsb' 0 8 ++ 0#8 := by
    conv_lhs => rw [split]
    rw [show (r.extractLsb' 8 8 ++ r.extractLsb' 0 8 : BitVec 16).extractLsb' 8 8 = r.extractLsb' 8 8 from
      BitVec.extractLsb'_append_eq_left]
    exact crcOctet_high _ _
  simp only [octets16, List.foldl_cons, List.foldl_nil, first, crcOctet_self]

/-! ## Frames (Table 11.1) -/

theorem Frame.octets_length (f : Frame) : f.octets.length = f.payload.length + 7 := by
  simp [Frame.octets]
  omega

theorem Frame.onLink_length (f : Frame) : f.onLink.length = f.payload.length + 9 := by
  simp [Frame.onLink, Frame.octets_length]

theorem Frame.len_toNat (f : Frame) (h : f.payload.length ≤ 96) : f.len.toNat = f.payload.length := by
  simp only [Frame.len, BitVec.toNat_ofNat]
  omega

/-! ## Comparison of times (0.7) -/

theorem isAfter_iff (a b : Word32) : isAfter a b = true ↔ 1 ≤ (a - b).toNat ∧ (a - b).toNat ≤ 2147483647 := by
  simp [isAfter]

@[simp] theorem isAfter_self (a : Word32) : isAfter a a = false := by
  simp [isAfter]

/-- Of two times that differ by less than half the circle, one is after the other and not the reverse. -/
theorem isAfter_asymm (a b : Word32) (h : isAfter a b = true) : isAfter b a = false := by
  rw [isAfter_iff] at h
  simp only [isAfter, decide_eq_false_iff_not, not_and]
  intro _
  have : (b - a).toNat = 4294967296 - (a - b).toNat := by bv_omega
  omega

end Sys2Proof.Machine
end

