-- ==== Sys2Proof/Laws/Buffers.lean ====
section
/-! SUPPORT. Buffers, queues and the arbiter: where a buffer that joins can go, and that none is lost. -/

namespace Sys2Proof.Machine

/-! ## A taken buffer (R42) -/

@[simp] theorem Buffer.ready_frame (b : Buffer) : b.ready.frame = b.frame := by
  unfold Buffer.ready
  split <;> rfl

@[simp] theorem Buffer.ready_checkCurrent (b : Buffer) : b.ready.checkCurrent = true := by
  unfold Buffer.ready
  split <;> simp_all

@[simp] theorem Buffer.ready_resetReply (b : Buffer) : b.ready.resetReply = b.resetReply := by
  unfold Buffer.ready
  split <;> rfl

/-- A sound buffer is sound when it is taken, with a right CHECK. -/
theorem Buffer.Sound.ready {b : Buffer} (h : b.Sound) : b.ready.Sound := by
  refine ⟨by simpa using h.1, fun _ => ?_⟩
  unfold Buffer.ready
  split
  · exact h.2 ‹_›
  · dsimp only

/-- The octets of a sound buffer whose CHECK is current are those of its frame on the link. -/
theorem Buffer.Sound.octets_eq {b : Buffer} (h : b.Sound) (current : b.checkCurrent = true) :
    b.octets = b.frame.onLink := by
  simp [Buffer.octets, Frame.onLink, h.2 current]

theorem Frame.received_sound (f : Frame) (h : f.payload.length ≤ 96) : f.received.Sound := by
  refine ⟨by simpa [Frame.received, Config.payloadLimit] using h, fun _ => ?_⟩
  simp only [Frame.received]

/-! ## The arbiter (R40) -/

variable (s : State)

/-- The arbiter ends in IDLE-FILL with both queues empty, or sends the head of one of them. -/
theorem State.arbitrate_cases :
    (s.pool.repeatQueue = [] ∧ s.tx.insertQueue = [] ∧ s.arbitrate = { s with tx.state := .idleFill, tx.credit := 0 })
    ∨ (∃ b rest c, s.pool.repeatQueue = b :: rest ∧ s.arbitrate = s.takeRepeat b rest c
        ∧ c ≤ 2 ∧ (s.tx.insertQueue = [] → c = 0))
    ∨ (∃ b rest, s.tx.insertQueue = b :: rest ∧ s.arbitrate = s.takeInsert b rest) := by
  unfold State.arbitrate
  split
  · exact .inl ⟨‹_›, ‹_›, rfl⟩
  · exact .inr (.inl ⟨_, _, 0, ‹_›, rfl, by omega, fun _ => rfl⟩)
  · exact .inr (.inr ⟨_, _, ‹_›, rfl⟩)
  · split
    · exact .inr (.inl ⟨_, _, _, ‹_›, rfl, by omega, by simp_all⟩)
    · exact .inr (.inr ⟨_, _, ‹_›, rfl⟩)

@[simp] theorem State.arbitrate_free : s.arbitrate.pool.free = s.pool.free := by
  rcases s.arbitrate_cases with ⟨_, _, h⟩ | ⟨_, _, _, _, h, _⟩ | ⟨_, _, _, h⟩ <;> simp [h]

@[simp] theorem State.arbitrate_framesSent : s.arbitrate.tx.framesSent = s.tx.framesSent := by
  rcases s.arbitrate_cases with ⟨_, _, h⟩ | ⟨_, _, _, _, h, _⟩ | ⟨_, _, _, h⟩ <;> simp [h]

@[simp] theorem State.arbitrate_gap : s.arbitrate.tx.gap = s.tx.gap := by
  rcases s.arbitrate_cases with ⟨_, _, h⟩ | ⟨_, _, _, _, h, _⟩ | ⟨_, _, _, h⟩ <;> simp [h]

@[simp] theorem State.arbitrate_startUpDone : s.arbitrate.tx.startUpDone = s.tx.startUpDone := by
  rcases s.arbitrate_cases with ⟨_, _, h⟩ | ⟨_, _, _, _, h, _⟩ | ⟨_, _, _, h⟩ <;> simp [h]

/-- The arbiter loses no buffer: what leaves a queue is being sent. -/
theorem State.arbitrate_total :
    s.arbitrate.pool.repeatQueue.length + s.arbitrate.tx.insertQueue.length + s.arbitrate.tx.state.transmitting
      = s.pool.repeatQueue.length + s.tx.insertQueue.length := by
  rcases s.arbitrate_cases with ⟨hr, hi, h'⟩ | ⟨_, _, _, hr, h', _⟩ | ⟨_, _, hi, h'⟩
  · simp [h', hr, hi, TxState.transmitting]
  · simp [h', hr, TxState.transmitting]; omega
  · simp [h', hi, TxState.transmitting]; omega

/-! ## Joining a queue (R34, R39) -/

/-- After a join the arbiter has been consulted in IDLE-FILL, and the buffer waits otherwise. -/
theorem State.afterJoin_cases :
    (s.tx.state = .idleFill ∧ s.afterJoin = s.arbitrate) ∨ (s.tx.state ≠ .idleFill ∧ s.afterJoin = s) := by
  unfold State.afterJoin
  split <;> simp_all

theorem State.joinRepeat_cases (b : Buffer) :
    (s.tx.state = .idleFill
      ∧ s.joinRepeat b = ({ s with pool.repeatQueue := s.pool.repeatQueue ++ [b] } : State).arbitrate)
    ∨ (s.tx.state ≠ .idleFill ∧ s.joinRepeat b = { s with pool.repeatQueue := s.pool.repeatQueue ++ [b] }) :=
  State.afterJoin_cases { s with pool.repeatQueue := s.pool.repeatQueue ++ [b] }

theorem State.joinInsert_cases (b : Buffer) :
    (s.tx.state = .idleFill
      ∧ s.joinInsert b = ({ s with tx.insertQueue := s.tx.insertQueue ++ [b] } : State).arbitrate)
    ∨ (s.tx.state ≠ .idleFill ∧ s.joinInsert b = { s with tx.insertQueue := s.tx.insertQueue ++ [b] }) :=
  State.afterJoin_cases { s with tx.insertQueue := s.tx.insertQueue ++ [b] }

@[simp] theorem State.joinRepeat_free (b : Buffer) : (s.joinRepeat b).pool.free = s.pool.free := by
  rcases s.joinRepeat_cases b with ⟨_, h⟩ | ⟨_, h⟩ <;> simp [h]

@[simp] theorem State.joinInsert_free (b : Buffer) : (s.joinInsert b).pool.free = s.pool.free := by
  rcases s.joinInsert_cases b with ⟨_, h⟩ | ⟨_, h⟩ <;> simp [h]

/-! ## Repetition (R30) -/

/-- A frame is repeated, or discarded as expired. -/
theorem State.repeatFrame_cases (b : Buffer) :
    (b.frame.hops = 0
      ∧ s.repeatFrame b = { s with pool.free := s.pool.free + 1, rx.expired := s.rx.expired + 1 })
    ∨ (b.frame.hops ≠ 0
      ∧ s.repeatFrame b = ({ s with rx.framesRepeated := s.rx.framesRepeated + 1 } : State).joinRepeat
          (b.repeated s.events.attention)) := by
  unfold State.repeatFrame
  split
  · exact .inl ⟨‹_›, rfl⟩
  · exact .inr ⟨‹_›, rfl⟩

theorem rewrittenMark_length (attention : Bool) (p : List Octet) : (rewrittenMark attention p).length = p.length := by
  unfold rewrittenMark
  split <;> simp

/-- A repeated buffer carries the right CHECK. -/
theorem Buffer.repeated_sound {b : Buffer} (h : b.frame.payload.length ≤ 96) (attention : Bool) :
    (b.repeated attention).Sound ∧ (b.repeated attention).checkCurrent = true := by
  refine ⟨⟨?_, fun _ => by simp only [Buffer.repeated]⟩, by simp only [Buffer.repeated]⟩
  simp only [Buffer.repeated, Frame.repeated, Config.payloadLimit]
  split
  · rwa [rewrittenMark_length]
  · exact h

end Sys2Proof.Machine
end

