-- ==== Sys2Proof/Laws/Events.lean ====
section
/-! SUPPORT. The Event List: what recording, appending, fetching and acknowledging leave. -/

namespace Sys2Proof.Machine

/-! ## The newest record (R168 case 1) -/

theorem raiseNewest_append (es : List EventRecord) (e : EventRecord) :
    raiseNewest (es ++ [e]) = es ++ [{ e with count := min (e.count + 1) 65535 }] := by
  induction es with
  | nil => rfl
  | cons x xs ih =>
    cases xs with
    | nil => rfl
    | cons y ys => simpa [raiseNewest] using ih

@[simp] theorem raiseNewest_length (es : List EventRecord) : (raiseNewest es).length = es.length := by
  rcases List.eq_nil_or_concat es with rfl | ⟨xs, x, rfl⟩
  · rfl
  · simp [raiseNewest_append]

/-- Raising the newest record changes nothing but counts. -/
theorem raiseNewest_map {α : Type} (g : EventRecord → α)
    (same : ∀ (e : EventRecord) (n : Nat), g { e with count := n } = g e) (es : List EventRecord) :
    (raiseNewest es).map g = es.map g := by
  rcases List.eq_nil_or_concat es with rfl | ⟨xs, x, rfl⟩
  · rfl
  · simp [raiseNewest_append, same]

/-! ## Recording (R168) -/

variable (l : EventList) (now : Word32) (valid : Bool) (r : Report)

@[simp] theorem EventList.append_overflow : (l.append now valid r).overflow = l.overflow := rfl
@[simp] theorem EventList.append_attentionLevel : (l.append now valid r).attentionLevel = l.attentionLevel := rfl
@[simp] theorem EventList.append_nextSeq : (l.append now valid r).nextSeq = l.nextSeq + 1 := rfl
@[simp] theorem EventList.append_records :
    (l.append now valid r).records = l.records ++ [r.toRecord l.nextSeq now valid] := rfl

@[simp] theorem EventList.record_attentionLevel : (l.record now valid r).attentionLevel = l.attentionLevel := by
  unfold EventList.record
  split <;> (try split) <;> rfl

/-- Recording never lets the list grow past its capacity. -/
theorem EventList.record_length (h : l.records.length ≤ Config.eventLimit) :
    (l.record now valid r).records.length ≤ Config.eventLimit := by
  unfold EventList.record
  split
  · simpa using h
  · split
    · simp; omega
    · exact h

/-- Recording never lets the overflow count pass 65,535. -/
theorem EventList.record_overflow_le (h : l.overflow ≤ 65535) : (l.record now valid r).overflow ≤ 65535 := by
  unfold EventList.record
  split
  · exact h
  · split
    · exact h
    · exact Nat.min_le_right _ _

/-! ## Fetching (R170) -/

@[simp] theorem EventList.fetch_length (n : Nat) : (l.fetch n).records.length = l.records.length := by
  simp [EventList.fetch]
  omega

@[simp] theorem EventList.fetch_nextSeq (n : Nat) : (l.fetch n).nextSeq = l.nextSeq := rfl
@[simp] theorem EventList.fetch_overflow (n : Nat) : (l.fetch n).overflow = l.overflow := rfl
@[simp] theorem EventList.fetch_attentionLevel (n : Nat) : (l.fetch n).attentionLevel = l.attentionLevel := rfl

/-! ## Acknowledging (R171 to R173) -/

/-- An accepted sequence removes at least one record and no more than are held. -/
theorem EventList.removedBy_le (q : Word16) (h : l.accepts q = true) : l.removedBy q ≤ l.records.length := by
  simp only [EventList.accepts, List.any_eq_true, Bool.and_eq_true] at h
  obtain ⟨e, mem, _, eq⟩ := h
  unfold EventList.removedBy
  have := List.findIdx_lt_length_of_exists (p := fun e : EventRecord => e.sequence == q) ⟨e, mem, eq⟩
  omega

@[simp] theorem EventList.acknowledge_attentionLevel (q : Word16) :
    (l.acknowledge q now valid).attentionLevel = l.attentionLevel := by
  unfold EventList.acknowledge
  simp only []
  split <;> rfl

/-- After an accepted acknowledgement no event is counted as lost. -/
@[simp] theorem EventList.acknowledge_overflow (q : Word16) : (l.acknowledge q now valid).overflow = 0 := by
  unfold EventList.acknowledge
  simp only []
  split
  · assumption
  · rfl

end Sys2Proof.Machine
end

