-- ==== Sys2Proof/Laws/Link.lean ====
section
/-! SUPPORT. The Link Receiver: what one received symbol can do, and the leaving of BYPASS. -/

namespace Sys2Proof.Machine

variable (s : State) (sym : Symbol)

/-! ## BYPASS (R16, R17) -/

theorem State.mayLeaveBypass_of_not_inBypass (h : s.inBypass = false) : s.mayLeaveBypass = false := by
  simp [State.mayLeaveBypass, h]

theorem State.leaveBypass_of_not_may (h : s.mayLeaveBypass = false) : s.leaveBypass = s := by
  simp [State.leaveBypass, h]

theorem State.mirror_of_not_inBypass (h : s.inBypass = false) : s.mirror sym = s := by
  simp [State.mirror, h]

/-- Leaving BYPASS can be done once. -/
@[simp] theorem State.leaveBypass_mayLeaveBypass : s.leaveBypass.mayLeaveBypass = false := by
  unfold State.leaveBypass
  split
  · simp [State.mayLeaveBypass, State.inBypass]
  · exact Bool.of_not_eq_true ‹_›

/-! ## Which part of the receiver takes a symbol (R2, R3, R4) -/

/-- In IN-SYNC, outside BYPASS, a symbol is a symbol of the frame path. -/
theorem State.receive_of_assembles (h : s.Assembles) : s.receive sym = s.heard.inSyncSymbol sym := by
  obtain ⟨reset, sync, bypass⟩ := h
  have : s.heard.inBypass = false := bypass
  simp [State.receive, State.receiverTakes, reset, sync, s.leaveBypass_of_not_may (s.mayLeaveBypass_of_not_inBypass bypass),
    s.heard.mirror_of_not_inBypass sym this]

/-- A valid symbol of the frame path: counted, tracked, then assembled. -/
theorem State.inSyncSymbol_valid (h : s.inBypass = false) (valid : sym ≠ .invalid) :
    s.inSyncSymbol sym = ((s.countValid).trackBracket sym).assemble sym := by
  have : ((s.countValid).trackBracket sym).inBypass = false := by
    simpa [State.inBypass] using h
  simp [State.inSyncSymbol, valid, State.assembleUnlessBypass, this]

/-- Counting a valid symbol. -/
theorem State.countValid_link :
    s.countValid.link = { s.link with
      validRun := min (s.link.validRun + 1) Config.syncRun
      errorRun := if min (s.link.validRun + 1) Config.syncRun = Config.syncRun then 0 else s.link.errorRun } := rfl

/-- Hunting counts an IDLE, enters IN-SYNC, or starts the IDLE run again. -/
theorem State.hunt_cases :
    (sym = .idle ∧ s.link.idleRun + 1 < Config.syncRun
      ∧ s.hunt sym = { s with link.idleRun := s.link.idleRun + 1 })
    ∨ (sym = .idle ∧ Config.syncRun ≤ s.link.idleRun + 1 ∧ s.hunt sym = s.enterInSync)
    ∨ (sym ≠ .idle ∧ s.hunt sym = { s with link.idleRun := 0 }) := by
  unfold State.hunt
  split
  · split
    · exact .inl ⟨‹_›, ‹_›, rfl⟩
    · exact .inr (.inl ⟨‹_›, Nat.le_of_not_lt ‹_›, rfl⟩)
  · exact .inr (.inr ⟨‹_›, rfl⟩)

/-- A frame ends at CLOSE with reason LENGTH or CHECK, or is classified. -/
theorem State.endFrame_cases (octets : List Octet) :
    (s.endFrame octets = s.dropAssembly .length .outside)
    ∨ (s.endFrame octets = s.dropAssembly .check .outside)
    ∨ ∃ b, lengthGood octets = true ∧ checkGood octets = true ∧ bufferOf octets = some b
        ∧ s.endFrame octets
          = ({ s with link.assembly := .outside, rx.framesGood := s.rx.framesGood + 1 } : State).classify b := by
  unfold State.endFrame
  split
  · exact .inl rfl
  · split
    · exact .inr (.inl rfl)
    · split
      · exact .inl rfl
      · exact .inr (.inr ⟨_, by simpa using ‹¬(!lengthGood octets) = true›,
          by simpa using ‹¬(!checkGood octets) = true›, ‹_›, rfl⟩)

/-- What passes the length check has a payload of at most 96 octets, and is stored whole. -/
theorem lengthGood_iff (octets : List Octet) :
    lengthGood octets = true
      ↔ ∃ len, octets[6]? = some len ∧ 9 ≤ octets.length ∧ len.toNat ≤ 96 ∧ octets.length = len.toNat + 9 := by
  unfold lengthGood
  split
  · simp_all
  · rename_i len at6
    simp only [at6, Option.some.injEq, exists_eq_left', Config.payloadLimit]
    exact decide_eq_true_iff

/-- The buffer of a frame that passed the length check holds at most 96 octets of payload. -/
theorem bufferOf_payload_le (octets : List Octet) (b : Buffer) (good : lengthGood octets = true)
    (h : bufferOf octets = some b) : b.frame.payload.length ≤ 96 := by
  obtain ⟨len, at6, _, limit, _⟩ := (lengthGood_iff octets).1 good
  unfold bufferOf at h
  split at h
  · simp only [List.getElem?_cons_succ, List.getElem?_cons_zero, Option.some.injEq] at at6
    injection h with h
    subst at6 h
    simp
    omega
  · cases h

/-! ## Loss of activity and the link timer (R2, R5) -/

/-- A loss of activity is due in HUNTING and IN-SYNC after two silent ticks, while RESETn is high. -/
theorem State.silenceDue_iff :
    s.silenceDue = true ↔ s.resetn = true ∧ s.link.rx ≠ .noSignal ∧ 2 ≤ s.link.silence := by
  simp only [State.silenceDue, Bool.and_eq_true, bne_iff_ne, decide_eq_true_iff, and_assoc]
  rfl

/-- A loss of activity that is not due changes nothing. -/
theorem State.loseActivity_of_not_due (h : s.silenceDue = false) : s.loseActivity = s := by
  simp [State.loseActivity, h]

/-- The expiry of the link timer does nothing, or takes the link DOWN and tells Run Control. -/
theorem State.expireLinkTimer_cases :
    (s.link.linkTimer ≠ some 0 ∧ s.expireLinkTimer = s)
    ∨ (s.link.linkTimer = some 0 ∧ s.expireLinkTimer
        = (({ s with link.link := .down, link.linkTimer := none } : State).report (.linkChange .down)).loseTrust .link) := by
  unfold State.expireLinkTimer
  split
  · exact .inr ⟨‹_›, rfl⟩
  · exact .inl ⟨‹_›, rfl⟩

end Sys2Proof.Machine
end

