-- ==== Sys2Proof/Laws/Step.lean ====
section
/-! SUPPORT. Steps and settlings as principles: what every part of the node's work keeps, every step keeps. -/

namespace Sys2Proof.Machine

variable {P : State → Prop}

/-- Runs compose. -/
theorem runs_append {before behind : List Instr} {s t u : State} (first : Runs before s t) (last : Runs behind t u) :
    Runs (before ++ behind) s u := by
  induction before generalizing s with
  | nil => cases first; exact last
  | cons c cs ih =>
    obtain ⟨v, run, rest⟩ := first
    exact ⟨v, run, ih rest⟩

/-- The list of expiries names every one there is. -/
theorem mem_allExpiries (e : Expiry) : e ∈ allExpiries := by
  cases e with
  | deadTime id | pulse id i | cadence id i => cases id <;> simp [allExpiries, bankExpiries]
  | startUp | silence | link | mark | holdover | due => simp [allExpiries]

/-- The outstanding expiries are those that are due. -/
theorem State.mem_outstanding (s : State) (e : Expiry) : e ∈ s.outstanding ↔ s.isDue e = true := by
  simp [State.outstanding, mem_allExpiries]

/-- A due expiry is taken by its own command. -/
theorem exec_expiry_command (e : Expiry) (s : State) : exec e.command s = .next (s.takeExpiry e) := by
  cases e <;> rfl

/-- What a taken expiry keeps, whichever it is and whatever order was chosen, one settling keeps. -/
theorem State.settleOne_keeps (chosen : ∀ (s : State) (n : Nat), P s → P { s with choices := n })
    (taken : ∀ (s : State) (e : Expiry), P s → P (s.takeExpiry e)) (s : State) (h : P s) : P s.settleOne := by
  unfold State.settleOne
  split
  · exact h
  · exact taken _ _ h
  · exact taken _ _ (chosen _ _ h)

theorem State.settleUpTo_keeps (chosen : ∀ (s : State) (n : Nat), P s → P { s with choices := n })
    (taken : ∀ (s : State) (e : Expiry), P s → P (s.takeExpiry e)) (n : Nat) (s : State) (h : P s) :
    P (State.settleUpTo n s) := by
  induction n generalizing s with
  | zero => exact h
  | succ n ih => exact ih _ (State.settleOne_keeps chosen taken s h)

/-- What the settled expiries, the leaving of BYPASS and the counting of the timers keep, a tick keeps. -/
theorem State.tick_keeps (chosen : ∀ (s : State) (n : Nat), P s → P { s with choices := n })
    (taken : ∀ (s : State) (e : Expiry), P s → P (s.takeExpiry e)) (left : ∀ s : State, P s → P s.leaveBypass)
    (counted : ∀ s : State, P s → P s.advance) (s : State) (h : P s) : P s.tick := by
  unfold State.tick
  split
  · exact counted _ (left _ (State.settleUpTo_keeps chosen taken _ s h))
  · exact h

/-- What every symbol keeps, a whole frame keeps. -/
theorem State.receiveFrame_keeps (received : ∀ (s : State) (sym : Symbol), P s → P (s.receive sym)) (f : Frame)
    (s : State) (h : P s) : P (s.receiveFrame f) := by
  have fold : ∀ (octets : List Octet) (t : State), P t → P (octets.foldl (fun st o => st.receive (.data o)) t) := by
    intro octets
    induction octets with
    | nil => exact fun _ h => h
    | cons o os ih => exact fun t h => ih _ (received t _ h)
  exact received _ _ (fold _ _ (received _ _ h))

/-- What resets, expiries, ticks, symbols and the transmitter's own progress keep, every command keeps. -/
theorem exec_keeps
    (fell : ∀ s : State, P s → P s.resetnFalls) (rose : ∀ (s : State) (straps : BitVec 6), P s → P (s.resetnRises straps))
    (chosen : ∀ (s : State) (n : Nat), P s → P { s with choices := n })
    (taken : ∀ (s : State) (e : Expiry), P s → P (s.takeExpiry e)) (left : ∀ s : State, P s → P s.leaveBypass)
    (counted : ∀ s : State, P s → P s.advance) (received : ∀ (s : State) (sym : Symbol), P s → P (s.receive sym))
    (idled : ∀ s : State, P s → P s.sendIdle)
    (completed : ∀ (s : State) (straps : BitVec 6), P s → P (s.completeTransmission straps))
    (c : Instr) (s t : State) (h : P s) (run : exec c s = .next t) : P t := by
  have frame := fun (f : Frame) => State.receiveFrame_keeps received f s h
  cases c <;> cases run
  case resetnFall => exact fell s h
  case resetnRise straps =>
    split
    · exact h
    · exact rose s straps h
  case tickEvent => exact State.tick_keeps chosen taken left counted s h
  case startUpCompletion => exact taken s .startUp h
  case leaveBypass => exact left s h
  case lossOfActivity => exact taken s .silence h
  case linkTimerExpiry => exact taken s .link h
  case dueExpiry => exact taken s .due h
  case deadTimeExpiry id => exact taken s (.deadTime id) h
  case pulseExpiry id i => exact taken s (.pulse id i) h
  case cadenceEdge id i => exact taken s (.cadence id i) h
  case markTimerExpiry => exact taken s .mark h
  case holdoverTimerExpiry => exact taken s .holdover h
  case transmitCompletion straps => exact completed s straps h
  case idleSymbolSent => exact idled s h
  all_goals first
    | exact received s _ h
    | exact frame _

/-- An invariant of the node: what the queue does not touch and every command keeps, every step keeps. -/
theorem step_keeps (queue : ∀ (s : State) (q : List Instr), P s → P { s with pending := q })
    (kept : ∀ (c : Instr) (s t : State), P s → exec c s = .next t → P t)
    (s t : State) (h : P s) (run : step s = .next t) : P t := by
  unfold step at run
  split at run
  · cases run; exact h
  · exact kept _ _ _ (queue _ _ h) run

end Sys2Proof.Machine
end

