-- ==== Sys2Proof/Laws/Steps.lean ====
section
/-! SUPPORT. The Step Queue: insertion, acceptance, the leaving of steps, and what each does to the counters. -/

namespace Sys2Proof.Machine

/-! ## Insertion (R84) -/

@[simp] theorem insertStep_length (st : Step) (held : List Step) : (insertStep st held).length = held.length + 1 := by
  induction held with
  | nil => rfl
  | cons h t ih =>
    unfold insertStep
    split <;> simp [ih]

/-- Insertion adds the new step and loses none. -/
@[simp] theorem mem_insertStep (x st : Step) (held : List Step) : x ∈ insertStep st held ↔ x = st ∨ x ∈ held := by
  induction held with
  | nil => simp [insertStep]
  | cons h t ih =>
    unfold insertStep
    split
    · simp
    · simp only [List.mem_cons, ih]
      tauto

/-! ## Acceptance (R89) -/

variable (s : State) (st : Step)

theorem ite_some_eq_none {α : Type} {c : Prop} [Decidable c] (a : α) (x : Option α) :
    (if c then some a else x) = none ↔ ¬c ∧ x = none := by
  split <;> simp [*]

/-- What a step that passes all seven checks has passed. -/
theorem State.rejection_none (h : s.rejection st = none) :
    s.run ≠ .failsafe ∧ s.time.timeValid = true ∧ s.table.entries[st.source].bankMask.getLsbD (bankIndex st.bank) = true
      ∧ st.mask ≠ 0 ∧ s.steps.held.length < Config.stepLimit
      ∧ (isAfter st.due s.time.networkTime = true →
          distanceAhead st.due s.time.networkTime ≤ s.steps.acceptWindow)
      ∧ (isAfter st.due s.time.networkTime = false →
          st.policy = .apply ∧ latenessOf st.due s.time.networkTime ≤ s.steps.lateLimit) := by
  simp only [State.rejection, ite_some_eq_none] at h
  obtain ⟨h1, h2, h3, h4, h5, h6, h7, -⟩ := h
  refine ⟨h1, by simpa using h2, by simpa using h3, h4, Nat.lt_of_not_le h7, fun ha => ?_, fun ha => ?_⟩
  · simpa [ha] using h5
  · rw [ha] at h6
    cases hp : st.policy <;> simp_all

/-- An offered step is rejected with a record alone, or accepted. -/
theorem State.offerStep_cases :
    (∃ r, s.rejection st = some r ∧ s.offerStep st = s.report (.stepRejected r st.tag))
    ∨ (s.rejection st = none ∧ s.offerStep st = s.acceptStep st) := by
  unfold State.offerStep
  split
  · exact .inl ⟨_, ‹_›, rfl⟩
  · exact .inr ⟨‹_›, rfl⟩

/-! ## Steps that leave (R93, R96, R97) -/

/-- A due expiry does nothing, or takes the head step out and applies or suppresses it. -/
theorem State.takeDue_cases :
    s.takeDue = s
    ∨ ∃ st rest, s.steps.held = st :: rest ∧ isAfter st.due s.time.networkTime = false
        ∧ ((s.run = .armed ∧ s.takeDue = { s with
              steps.held := rest
              steps.counters.applied := s.steps.counters.applied + 1
              out := s.out.setBank st.bank ((s.out.bank st.bank).applyStep st.toBankStep) })
          ∨ (s.run ≠ .armed ∧ s.takeDue = ({ s with steps.held := rest } : State).suppress)) := by
  unfold State.takeDue
  split
  · exact .inl rfl
  · split
    · exact .inl rfl
    · refine .inr ⟨_, _, ‹_›, Bool.of_not_eq_true ‹_›, ?_⟩
      split
      · exact .inl ⟨‹_›, rfl⟩
      · exact .inr ⟨‹_›, rfl⟩

/-- An overtaken step is applied late, suppressed or dropped late; each raises exactly one outcome counter. -/
theorem State.overtake_cases :
    (s.run = .armed ∧ s.overtake st = s.applyLate st (latenessOf st.due s.time.networkTime))
    ∨ (s.run ≠ .armed ∧ s.overtake st = s.suppress)
    ∨ s.overtake st = ({ s with steps.counters.lateDropped := s.steps.counters.lateDropped + 1 } : State).report
        (.lateDropped st.tag (latenessOf st.due s.time.networkTime)) := by
  unfold State.overtake
  simp only []
  split
  · split
    · exact .inl ⟨‹_›, rfl⟩
    · exact .inr (.inl ⟨‹_›, rfl⟩)
  · exact .inr (.inr rfl)

/-- Overtaking a step leaves the queue as it is; the steps have left it before. -/
@[simp] theorem State.overtake_held : (s.overtake st).steps.held = s.steps.held := by
  rcases s.overtake_cases st with ⟨_, h⟩ | ⟨_, h⟩ | h <;> simp [h]

@[simp] theorem State.overtakeAll_held (sts : List Step) :
    (sts.foldl State.overtake s).steps.held = s.steps.held := by
  induction sts generalizing s with
  | nil => rfl
  | cons st sts ih => simp [ih]

/-- A forward step leaves the steps from the first one that is still ahead. -/
@[simp] theorem State.forwardStep_held :
    s.forwardStep.steps.held = s.steps.held.dropWhile fun st => !isAfter st.due s.time.networkTime := by
  simp [State.forwardStep]

/-! ## Flushes (R97, R99, R101) -/

@[simp] theorem State.countFlushed_steps (c : FlushCause) (n : Nat) :
    (s.countFlushed c n).steps
      = { s.steps with counters.flushed := s.steps.counters.flushed + BitVec.ofNat 32 n } := by
  unfold State.countFlushed
  simp only []
  split <;> rfl

@[simp] theorem State.flushAll_held (c : FlushCause) : (s.flushAll c).steps.held = [] := by
  simp [State.flushAll]

@[simp] theorem State.backwardStep_held :
    s.backwardStep.steps.held
      = s.steps.held.filter fun st => distanceAhead st.due s.time.networkTime ≤ s.steps.acceptWindow := by
  simp [State.backwardStep]

end Sys2Proof.Machine
end

