-- ==== Sys2Proof/WellFormed.lean ====
section
/-! DEFINITION. Which commands spell an event the ring can deliver as the row names it. -/

namespace Sys2Proof

/-- A command is well formed when its operands fit the frame the row names: the payload of a frame has at most 96 octets
(R7, Table 1.3). Every other operand has its range in its type. The meanings do not ask for it: an over-long SCHEDULE is
received as the symbols it spells, and fails R11 or R12. -/
def Instr.wellFormed : Instr → Bool
  | .schedule _ payload => decide (payload.length ≤ Config.payloadLimit)
  | .resetnFall | .resetnRise _ | .tickEvent | .startUpCompletion | .leaveBypass => true
  | .idle | .openSymbol | .dataOctet _ | .abort | .invalidSymbol | .lossOfActivity | .closeSymbol => true
  | .linkTimerExpiry | .dueExpiry | .deadTimeExpiry _ | .pulseExpiry _ _ | .cadenceEdge _ _ => true
  | .markTimerExpiry | .holdoverTimerExpiry | .transmitCompletion _ | .idleSymbolSent => true
  | .timeMark _ _ _ _ _ | .broadcastDisarm _ _ _ => true
  | .ident _ | .status _ _ | .addrGet _ _ | .addrSet _ _ _ _ | .configGet _ _ | .configSet _ _ _ => true
  | .arm _ | .disarm _ | .lineSetStatic _ _ _ _ | .lineSetCadence _ _ _ _ | .cancel _ _ | .flush _ _ => true
  | .queuePeek _ _ _ | .eventFetch _ _ | .eventAck _ _ | .resetSoft _ | .resetFull _ => true

end Sys2Proof
end

