-- ==== Sys2Proof/Tests/Slice0.lean ====
section
/-! SUPPORT. Tests whose results come from the manual's rules and figures, each of one command on a small state, and for
each statement with hypotheses a witness that states and operands meet them, clause by clause at the ends of their ranges. -/

open Sys2Proof Sys2Proof.Machine

namespace Sys2Proof.Tests

-- each theorem here is evaluated by the kernel, one after another
set_option Elab.async false

/-! ## Small states -/

/-- The state a command leaves. -/
def after (c : Instr) (s : State) : State :=
  match exec c s with
  | .next t => t
  | .fault _ | .refused _ => s

/-- A receiver in IN-SYNC. -/
def synced : LinkReceiver := { LinkReceiver.reset with rx := .inSync, idleRun := 16, link := .up }

/-- A Timebase in LOCKED at 5,000,000, epoch 3. -/
def locked : Timebase :=
  { Timebase.reset with
    localTicks := 80000, networkTime := 5000000, sync := .locked, epoch := some 3, goodMarks := 3
    markTimer := some 250000 }

/-- The table of a node at unit address 12 with group entry 1 at address 40. -/
def table12 : AddressTable :=
  (AddressTable.sampled 11).setEntry 1
    { address := some 40, bankMask := 7, acceptMark := true, acceptSchedule := true, lastSeq := none }

/-- A PLAIN step of one line under APPLY. -/
def stepOf (tag : Word16) (due : Word32) (bank : BankId) (value : Octet) : Step :=
  { tag, due, bank, value, mask := 1, mode := .plain, policy := .apply, pulse := none, source := 0 }

/-- A node that is ARMED, LOCKED, UP and in IDLE-FILL, with two steps held. -/
def node : State :=
  { State.reset with
    resetn := true
    link := synced
    tx := { Transmitter.reset with state := .idleFill, gap := 2, startUpDone := true }
    table := table12
    time := locked
    run := .armed
    steps := { StepQueue.reset with
      held := [stepOf 7 5002000 .a 1, stepOf 8 5006200 .b 1]
      counters := { StepCounters.reset with accepted := 2 } } }

/-- The same node in SAFE. -/
def safeNode : State := { node with run := .safe }

/-- A header from the head to the node. -/
def toNode : Header := { dest := 12, src := 0, hops := 9, seq := 301 }

/-- A header to an address. -/
def toAddress (dest : Octet) : Header := { dest, src := 0, hops := 9, seq := 301 }

/-- A frame with a header, a kind and a payload. -/
def frameTo (dest src kind hops : Octet) (payload : List Octet) : Frame := { dest, src, kind, hops, seq := 301, payload }

/-- The largest frame to another node. -/
def largest : Frame := frameTo 77 0 0x52 1 (List.replicate 96 0)

/-- The buffer of a small frame. -/
def buffer : Buffer := (frameTo 0 12 0x54 255 [1]).received

/-- A node that is sending. -/
def sending (tag : Tag) : State := { node with pool.free := 9, tx.state := .sending buffer tag, tx.gap := 1 }

/-- A node that assembles a frame with the octets given. -/
def assembling (octets : List Octet) : State :=
  { node with pool.free := 9, link.assembly := .assembling octets, link.bracketOpen := true }

/-! ## Well-formedness and decoding -/

theorem test_overlong_schedule_is_ill_formed : (Instr.schedule toNode (List.replicate 97 0)).wellFormed = false := by
  decide +kernel

theorem test_longest_schedule_is_well_formed : (Instr.schedule toNode (List.replicate 96 0)).wellFormed = true := by
  decide +kernel

theorem test_no_word_spells_a_command : decodeTableWord 16 0x1234 = none := rfl

/-! ## Layouts (chapters 1 and 11) -/

/-- The check value of the CRC with this polynomial and start value over the digits 1 to 9 is 29B1H. -/
theorem test_crc_check_value : crc [0x31, 0x32, 0x33, 0x34, 0x35, 0x36, 0x37, 0x38, 0x39] = 0x29B1 := by decide +kernel

/-- Figure 6.1's record 2: COUNT 1, tag 41, due 4,999,800, C4 to 1, PLAIN, APPLY, pulse 1,000. -/
theorem test_schedule_record_reads :
    readSchedule 0 [1, 0x00, 0x29, 0x00, 0x4C, 0x4A, 0x78, 0x1A, 0x10, 0x10, 0x03, 0xE8]
      = some [{ tag := 41, due := 4999800, bank := .c, value := 0x10, mask := 0x10, mode := .plain, policy := .apply,
                pulse := some 1000, source := 0 }] := by decide +kernel

/-- Bank field 3 is malformed (R86). -/
theorem test_bank_three_is_malformed : readSchedule 0 [1, 0, 1, 0, 0, 0, 0, 0x03, 0, 1] = none := by decide +kernel

/-! ## Reset, clock, start-up -/

theorem test_rise_samples_the_straps :
    (after (.resetnRise 11) .reset).table.unitAddress = some 12
      ∧ (after (.resetnRise 11) .reset).events.records.map (·.reason) = [some 1] := by decide +kernel

theorem test_fall_drives_the_pins_to_0 :
    (after .resetnFall { node with out.bankA.latch := 0xFF }).pins .a = 0 := by decide +kernel

/-- R64: at a multiple of 64 a residue of -4 holds network time and becomes -3. -/
theorem test_absorbing_tick_holds_time :
    let t := after .tickEvent { node with time.localTicks := 127, time.residue := -4 }
    t.time.networkTime = 5000000 ∧ t.time.residue = -3 := by decide +kernel

theorem test_other_tick_advances_time :
    let t := after .tickEvent { node with time.residue := 4 }
    t.time.networkTime = 5000001 ∧ t.time.residue = 4 := by decide +kernel

theorem test_bypass_is_kept_inside_a_frame :
    (after .leaveBypass { node with tx.state := .bypass, link.bracketOpen := true }).tx.state = .bypass := by decide +kernel

/-! ## Symbols (figure 1.1) -/

theorem test_sixteenth_idle_brings_the_link_up :
    let t := after .idle { node with link.rx := .hunting, link.idleRun := 15, link.link := .down }
    t.link.rx = .inSync ∧ t.link.link = .up := by decide +kernel

theorem test_open_claims_a_buffer :
    (after .openSymbol { node with pool.free := 4 }).pool.free = 3 := by decide +kernel

theorem test_invalid_symbol_damages_the_frame :
    let t := after .invalidSymbol (assembling (List.replicate 9 0))
    t.link.assembly = .skipping ∧ t.pool.free = 10 ∧ t.events.records.map (·.reason) = [some 6] := by decide +kernel

theorem test_fourth_invalid_symbol_ends_sync :
    let t := after .invalidSymbol { node with link.errorRun := 3 }
    t.link.rx = .hunting ∧ t.link.linkTimer = some 2000 := by decide +kernel

theorem test_octet_106_is_oversize :
    (after (.dataOctet 0) (assembling (List.replicate 105 0))).events.records.map (·.reason) = [some 3] := by decide +kernel

theorem test_close_of_a_short_frame_is_length :
    (after .closeSymbol (assembling (List.replicate 8 0))).events.records.map (·.reason) = [some 2] := by decide +kernel

theorem test_abort_ends_the_frame :
    (after .abort (assembling [0])).events.records.map (·.reason) = [some 4] := by decide +kernel

/-- Figure 1.1: four data octets, then no symbol from T; at T + 2 the loss of activity. -/
theorem test_loss_of_activity_starts_the_link_timer :
    let t := after .lossOfActivity { assembling [0, 0, 0, 0] with link.silence := 2 }
    t.link.rx = .noSignal ∧ t.link.linkTimer = some 2000 ∧ t.events.records.map (·.reason) = [some 7] := by decide +kernel

theorem test_second_silent_tick_makes_the_loss_due :
    (after .tickEvent node).silenceDue = false
      ∧ (after .tickEvent { node with link.silence := 1 }).silenceDue = true := by decide +kernel

/-! ## Loss of link while armed (figure 8.2) -/

theorem test_link_expiry_enters_failsafe :
    let t := after .linkTimerExpiry { node with
      link.rx := .noSignal, link.linkTimer := some 0, out.bankA.latch := 5, out.bankA.safePattern := 2 }
    t.run = .failsafe ∧ t.out.bankA.latch = 0 ∧ t.out.bankA.transition.map (·.makeSet) = some 2
      ∧ t.events.records.map (·.kind) = [.linkChange, .flushed, .runChange] := by decide +kernel

/-! ## Marks (figures 5.1, 5.2, 6.3) -/

/-- Mark 1: from UNSYNCED to ACQUIRING at 7,000,012. -/
theorem test_first_mark_acquires :
    let t := after (.timeMark (toAddress 255) 7000000 3 4 0)
      { safeNode with time := { Timebase.reset with networkTime := 40000, hopDelay := 3 }, steps.held := [] }
    t.time.sync = .acquiring ∧ t.time.networkTime = 7000012 ∧ t.time.goodMarks = 1 := by decide +kernel

/-- Mark 3: LOCKED with residue -4. -/
theorem test_third_good_mark_locks :
    let t := after (.timeMark (toAddress 255) 7200000 3 4 0)
      { node with time := { locked with sync := .acquiring, networkTime := 7200016, hopDelay := 3, goodMarks := 2 } }
    t.time.sync = .locked ∧ t.time.residue = -4 ∧ t.time.networkTime = 7200016 := by decide +kernel

theorem test_mark_timer_in_locked_enters_holdover :
    let t := after .markTimerExpiry { node with time.markTimer := some 0 }
    t.time.sync = .holdover ∧ t.time.holdoverTimer = some 5000000 ∧ t.time.markTimer = none := by decide +kernel

theorem test_holdover_expiry_loses_time :
    let t := after .holdoverTimerExpiry
      { node with time := { locked with sync := .holdover, markTimer := none, holdoverTimer := some 0 } }
    t.time.sync = .unsynced ∧ t.run = .failsafe ∧ t.steps.held = [] := by decide +kernel

/-! ## The Step Queue (figures 6.2, 4.1) -/

/-- Record 3 of 6.11: due with tag 7, it goes in behind it. -/
theorem test_equal_due_times_keep_their_order :
    ((node.offerStep { stepOf 42 5002000 .a 0 with mask := 2, policy := .drop }).steps.held).map (·.tag) = [7, 42, 8] := by
  decide +kernel

theorem test_schedule_duplicate_half_way_round :
    let s := { node with table := node.table.setEntry 1 { node.table.entries[1] with lastSeq := some 32868 } }
    let t := after (.schedule { toAddress 40 with seq := 100 } [0]) s
    t.rx.duplicateSchedules = 1 ∧ t.table.entries[1].lastSeq = some 32868 ∧ t.rx.framesRepeated = 1 := by decide +kernel

theorem test_schedule_new_by_32767 :
    let s := { node with table := node.table.setEntry 1 { node.table.entries[1] with lastSeq := some 101 } }
    let t := after (.schedule { toAddress 40 with seq := 32868 } [0]) s
    t.rx.duplicateSchedules = 0 ∧ t.table.entries[1].lastSeq = some 32868 := by decide +kernel

theorem test_due_step_is_applied :
    let t := after .dueExpiry { node with time.networkTime := 5002000 }
    t.out.bankA.latch = 1 ∧ t.steps.counters.applied = 1 ∧ t.steps.held.map (·.tag) = [8] := by decide +kernel

theorem test_due_step_is_suppressed_in_safe :
    let t := after .dueExpiry { safeNode with time.networkTime := 5002000 }
    t.out.bankA.latch = 0 ∧ t.steps.counters.suppressed = 1 := by decide +kernel

/-! ## Bank B (figure 7.2) -/

/-- Bank B at the start of 7.9. -/
def bankB : Bank := { Bank.reset with latch := 0x09 }

/-- S1 breaks B0 and waits with B1. -/
theorem test_break_before_make :
    let b := bankB.applyStep { value := 0x02, mask := 0x03, mode := .breakBeforeMake, pulse := none }
    b.latch = 0x08 ∧ b.transition.map (·.makeSet) = some 0x02 ∧ b.transition.map (·.timer) = some 4 := by decide +kernel

theorem test_dead_time_expiry_makes_the_lines :
    let t := after (.deadTimeExpiry .b) { node with
      out.bankB.transition := some { makeSet := 0x14, timer := 0, pulses := Vector.replicate 8 none } }
    t.out.bankB.latch = 0x14 ∧ t.out.bankB.transition = none := by decide +kernel

/-- B3's pulse reverts by a make that waits the dead time. -/
theorem test_pulse_reverts_by_a_make :
    let t := after (.pulseExpiry .b 3) { node with
      out.bankB.latch := 0x14, out.bankB.lines := bankB.lines.set 3 (.pulse true 0 .breakBeforeMake) }
    t.out.bankB.latch = 0x14 ∧ t.out.bankB.transition.map (·.makeSet) = some 0x08
      ∧ t.out.bankB.lines[3] = .static := by decide +kernel

/-- R116: a revert to 1 under PLAIN and one under BREAK-BEFORE-MAKE have one outcome, whichever is taken first. -/
theorem test_two_reverts_have_one_outcome :
    let s : State := { node with
      out.bankB.lines := (bankB.lines.set 3 (.pulse true 0 .breakBeforeMake)).set 5 (.pulse true 0 .plain) }
    let t := after (.pulseExpiry .b 5) (after (.pulseExpiry .b 3) s)
    t = after (.pulseExpiry .b 3) (after (.pulseExpiry .b 5) s) ∧ t.out.bankB.latch = 0x20
      ∧ t.out.bankB.transition.map (·.makeSet) = some 0x08 := by decide +kernel

theorem test_cadence_edge_at_the_on_time_clears_the_line :
    (after (.cadenceEdge .c 3) { node with
      out.bankC.latch := 0x08, out.bankC.lines := bankB.lines.set 3 (.cadence 1000 500 500 true) }).out.bankC.latch = 0 := by
  decide +kernel

/-! ## The transmitter (figure 3.1) -/

/-- Credit 2 and both queues held: the reply is taken and the credit returns to 0. -/
theorem test_spent_credit_takes_the_reply :
    let t := after (.transmitCompletion 0) { sending .fromRepeat with
      pool.repeatQueue := [buffer], pool.free := 7, tx.insertQueue := [buffer], tx.credit := 2 }
    t.tx.state = .sending buffer .fromInsert ∧ t.tx.credit = 0 ∧ t.pool.repeatQueue = [buffer] := by decide +kernel

theorem test_idle_sent_raises_the_gap : (after .idleSymbolSent (sending .fromInsert)).tx.gap = 2 := by decide +kernel

theorem test_repeated_mark_raises_hops_and_attention :
    ((frameTo 255 0 0x51 3 [0, 0, 0, 0, 3, 4, 255]).repeated true).payload = [0, 0, 0, 0, 3, 5, 255] := by decide +kernel

/-! ## Commands -/

/-- The payload of the reply a command leaves in the record. -/
def replyOf (c : Instr) (s : State) : Option (List Octet) := (after c s).cmd.last.map (·.payload)

/-- Part 2430, revision B, strap value 11, unit address 12; ARMED, LOCKED, UP. -/
theorem test_ident_reply : replyOf (.ident toNode) node = some [1, 0, 0x68, 0, 0x09, 0x7E, 0x42, 11, 12] := by
  decide +kernel

theorem test_status_page_3_is_bad_value : replyOf (.status toNode 3) node = some [2, 2, 0x68, 0] := by decide +kernel

theorem test_addr_get_of_the_broadcast_entry :
    replyOf (.addrGet toNode 8) node = some [3, 0, 0x68, 0, 8, 255, 0xB7, 0, 0] := by decide +kernel

/-- Figure 4.2: the reply leaves from address 12 and entry 0 then holds 30. -/
theorem test_new_unit_address_after_the_reply :
    let t := after (.addrSet toNode 0 30 0xB7) node
    t.table.unitAddress = some 30 ∧ t.tx.state.buffer.map (·.frame.src) = some 12 := by decide +kernel

theorem test_addr_set_in_use : (replyOf (.addrSet toNode 2 40 0x80) node).bind (·[1]?) = some 4 := by decide +kernel

theorem test_config_get_reads_a_default :
    replyOf (.configGet toNode 14) node = some [5, 0, 0x68, 0, 14, 0, 0, 0x07, 0xD0] := by decide +kernel

theorem test_config_set_rearms_the_mark_timer :
    (after (.configSet toNode 11 1000) node).time.markTimer = some 1000 := by decide +kernel

theorem test_arm_needs_locked :
    (after (.arm toNode) { safeNode with time.sync := .holdover }).run = .safe
      ∧ (after (.arm toNode) safeNode).run = .armed := by decide +kernel

theorem test_disarm_keeps_the_queue :
    let t := after (.disarm toNode) node
    t.run = .safe ∧ t.steps.held.length = 2 := by decide +kernel

theorem test_broadcast_disarm_builds_no_reply :
    let t := after (.broadcastDisarm 0 9 5) node
    t.run = .safe ∧ t.cmd.last = none ∧ t.rx.framesRepeated = 1 := by decide +kernel

theorem test_line_set_static : (after (.lineSetStatic toNode 9 1 0) node).out.bankB.latch = 2 := by decide +kernel

theorem test_line_set_cadence :
    (after (.lineSetCadence toNode 23 5 2) node).out.bankC.lines[7] = .cadence 5 2 0 false := by decide +kernel

/-- Figure 9.1: two steps with tag 55, then the retry answered from the record. -/
theorem test_cancel_and_its_retry :
    let s := { node with steps.held := [stepOf 55 5002000 .a 1, stepOf 55 5002001 .a 1] }
    let t := after (.cancel toNode 55) s
    replyOf (.cancel toNode 55) s = some [10, 0, 0x68, 0, 2] ∧ t.steps.counters.cancelled = 2
      ∧ (after (.cancel toNode 55) t).steps.counters.cancelled = 2 := by decide +kernel

theorem test_flush_of_one_bank :
    let t := after (.flush toNode 1) node
    t.steps.held.map (·.tag) = [8] ∧ t.steps.counters.flushed = 1 := by decide +kernel

theorem test_queue_peek_reply :
    replyOf (.queuePeek toNode 1 6) node
      = some [12, 0, 0x68, 0, 2, 1, 1, 0, 8, 0x00, 0x4C, 0x63, 0x78, 0x09, 1, 1, 0, 0, 0] := by decide +kernel

/-- Figure 10.2, steps 10 and 11 in small: two fetched records, one lost event. -/
theorem test_ack_appends_overflow :
    let s := { node with events := (((EventList.reset.record 0 true .noBuffer).record 0 true (.linkChange .up)).fetch 1) }
    let t := after (.eventAck toNode 0) { s with events.overflow := 2 }
    t.events.records.map (·.kind) = [.linkChange, .overflow] ∧ t.events.overflow = 0 := by decide +kernel

theorem test_fetch_ends_attention :
    let s := { node with events := EventList.reset.record 0 true .noBuffer }
    s.events.attention = true ∧ (after (.eventFetch toNode 4) s).events.attention = false := by decide +kernel

theorem test_soft_reset_empties_the_queue :
    let t := after (.resetSoft toNode) node
    t.run = .safe ∧ t.steps.held = [] ∧ t.events.records.map (·.kind) = [.flushed, .runChange] := by decide +kernel

/-- RESET FULL waits for its reply; the completion resets the node with one RESET record of reason COMMAND. -/
theorem test_full_reset_at_the_completion :
    let t := after (.resetFull toNode) node
    t.run = .armed ∧ t.cmd.resetPending = true
      ∧ (after (.transmitCompletion 5) t).table.unitAddress = some 6
      ∧ (after (.transmitCompletion 5) t).events.records.map (·.reason) = [some 2] := by decide +kernel

/-! ## Witnesses: the step, reset, clock -/

theorem witness_StepRunsTheFrontCommand :
    ({ node with pending := [.tickEvent] } : State).pending = .tickEvent :: [] := rfl

theorem witness_AbsentEventsChangeNothing :
    let s : State :=
      { node with link.linkTimer := some 1, link.silence := 1, time.markTimer := some 1, time.holdoverTimer := none }
    s.pending = [] ∧ s.resetn = true ∧ s.startUpDue = false ∧ s.mayLeaveBypass = false ∧ s.link.silence < 2
      ∧ s.link.linkTimer ≠ some 0 ∧ s.time.markTimer ≠ some 0 ∧ s.time.holdoverTimer ≠ some 0 ∧ s.stepDue = false
      ∧ (s.out.bank .a).transitionDue = false ∧ (s.out.bank .b).pulseDue 0 = false ∧ (s.out.bank .c).edgeDue 7 = false
      ∧ s.tx.state.isSending = false := by decide +kernel

theorem witness_ResetPinResetsAndStartsTheNode : State.reset.resetn = false := rfl

theorem witness_TickAdvancesTimeAndTimers :
    let ready (s : State) := s.resetn = true ∧ s.outstanding = [] ∧ s.mayLeaveBypass = false
    State.reset.resetn = false ∧ ready node ∧ ready { node with time.localTicks := 63, time.residue := 1 }
      ∧ ready { node with time.localTicks := 127, time.residue := -1 } := by decide +kernel

theorem witness_NothingOutstandingAfterSettling :
    let s : State := { node with time.markTimer := some 0, time.networkTime := 5002000 }
    (s.resetn = true ∧ s.BankLaw ∧ s.TimeLaw ∧ s.outstanding = [.mark, .due]) ∧ node.outstanding = []
      ∧ ({ node with link.silence := 2 } : State).outstanding = [.silence] :=
  ⟨⟨rfl, by decide +kernel, by decide +kernel, by decide +kernel⟩, by decide +kernel, by decide +kernel⟩

/-- A node in BYPASS at local tick 256. -/
def starting : State := { node with tx := Transmitter.reset, time.localTicks := 256 }

theorem witness_StartUpLeavesBypassAndIdles :
    let done : State := { starting with tx.startUpDone := true }
    (starting.resetn = true ∧ starting.tx.state = .bypass ∧ starting.tx.startUpDone = false
        ∧ starting.time.localTicks = 256)
      ∧ (done.resetn = true ∧ done.tx.state = .bypass ∧ done.tx.startUpDone = true ∧ done.link.bracketOpen = false)
      ∧ (node.resetn = true ∧ node.tx.state = .idleFill)
      ∧ ((sending .fromRepeat).tx.state.isSending = true ∧ (sending .fromRepeat).tx.gap < 2)
      ∧ 2 ≤ ({ sending .fromRepeat with tx.gap := 2 } : State).tx.gap := by decide +kernel

/-! ## Witnesses: the Link Receiver -/

/-- A node in HUNTING with an IDLE run. -/
def hunting (run : Nat) (link : LinkState) : State :=
  { node with link.rx := .hunting, link.idleRun := run, link.link := link, link.linkTimer := some 5 }

theorem witness_SixteenIdlesGiveSync :
    let ready (s : State) := s.resetn = true ∧ s.mayLeaveBypass = false ∧ s.link.rx ≠ .inSync
    ready (hunting 0 .up) ∧ ready (hunting 14 .up) ∧ 14 < 15
      ∧ (ready (hunting 15 .up) ∧ (hunting 15 .up).link.link = .up)
      ∧ (ready (hunting 15 .down) ∧ (hunting 15 .down).link.link = .down)
      ∧ ready { node with link.rx := .noSignal } ∧ Symbol.abort ≠ .idle
      ∧ (ready { starting with link.rx := .noSignal } ∧ starting.tx.state = .bypass) := by decide +kernel

theorem witness_BypassMirrorsSymbols :
    let may (s : State) := s.resetn = true ∧ s.tx.startUpDone = true ∧ (s.link.rx ≠ .inSync ∨ s.link.bracketOpen = false)
    (starting.tx.state = .bypass ∧ starting.resetn = true ∧ ¬may starting ∧ starting.link.assembly = .outside
        ∧ starting.link.rx = .inSync ∧ starting.link.errorRun < 3)
      ∧ ¬({ starting with link.errorRun := 3 } : State).link.errorRun < 3
      ∧ may { starting with tx.startUpDone := true }
      ∧ ¬may { starting with tx.startUpDone := true, link.bracketOpen := true }
      ∧ (State.reset.tx.state = .bypass ∧ State.reset.resetn = false) ∧ Symbol.openSymbol ≠ .invalid := by decide +kernel

theorem witness_OpenClaimsAndOctetsAreStored :
    let one : State := { node with pool.free := 1 }
    let empty : State := { node with pool.free := 0 }
    (one.Assembles ∧ one.link.assembly.receiving = 0 ∧ 0 < one.pool.free)
      ∧ (empty.Assembles ∧ empty.link.assembly.receiving = 0 ∧ empty.pool.free = 0)
      ∧ ((assembling []).Assembles ∧ (assembling []).link.assembly.receiving = 1)
      ∧ ((assembling (List.replicate 104 0)).Assembles ∧ (List.replicate 104 (0 : Octet)).length < 105)
      ∧ ((assembling (List.replicate 105 0)).Assembles ∧ 105 ≤ (List.replicate 105 (0 : Octet)).length) := by
  decide +kernel

/-- Fewer octets than a frame has, and a frame with a wrong CHECK. -/
def shortOctets : List Octet := List.replicate 8 0
def wrongOctets : List Octet := List.replicate 9 0

theorem witness_AbortAndCloseEndAFrame :
    (assembling []).Assembles
      ∧ ((assembling shortOctets).Assembles
        ∧ ¬(9 ≤ shortOctets.length
          ∧ ∃ len ∈ shortOctets[6]?, len.toNat ≤ 96 ∧ shortOctets.length = len.toNat + 9))
      ∧ ((assembling wrongOctets).Assembles ∧ lengthGood wrongOctets = true ∧ crc wrongOctets ≠ 0)
      ∧ (node.Assembles ∧ node.link.assembly.receiving = 0)
      ∧ ((assembling largest.onLink).Assembles ∧ largest.payload.length ≤ 96
        ∧ (assembling largest.onLink).link.assembly = .assembling largest.onLink) :=
  ⟨by decide +kernel, by decide +kernel, by decide +kernel, by decide +kernel, by decide +kernel, by decide +kernel, rfl⟩

/-- A state after two silent ticks. -/
def silent (s : State) : State := { s with link.silence := 2 }

theorem witness_SyncIsLostByDamageOrSilence :
    let third : State := { node with link.errorRun := 2 }
    let fourth : State := { node with link.errorRun := 3 }
    (third.Assembles ∧ third.link.assembly.receiving = 0 ∧ third.link.errorRun < 3)
      ∧ (fourth.Assembles ∧ fourth.link.assembly.receiving = 0 ∧ ¬fourth.link.errorRun < 3)
      ∧ ((assembling [0]).Assembles ∧ (assembling [0]).link.assembly.receiving = 1)
      ∧ (State.reset.resetn = false ∧ ({ node with link.silence := 1 } : State).link.silence < 2)
      ∧ ((silent (hunting 3 .up)).resetn = true ∧ 2 ≤ (silent (hunting 3 .up)).link.silence
        ∧ (silent (hunting 3 .up)).link.rx = .hunting)
      ∧ ((silent node).resetn = true ∧ 2 ≤ (silent node).link.silence ∧ (silent node).link.rx = .inSync
        ∧ (silent node).link.assembly.receiving = 0)
      ∧ ((silent (assembling [0])).resetn = true ∧ 2 ≤ (silent (assembling [0])).link.silence
        ∧ (silent (assembling [0])).link.rx = .inSync) := by decide +kernel

theorem witness_LinkTimerExpiryTakesTheLinkDown :
    let lost (s : State) : State := { s with link.rx := .noSignal, link.linkTimer := some 0 }
    ((lost safeNode).link.linkTimer = some 0 ∧ (lost safeNode).run ≠ .armed)
      ∧ ((lost { node with steps.held := [] }).run = .armed ∧ (lost { node with steps.held := [] }).steps.held.length = 0)
      ∧ ((lost node).run = .armed ∧ (lost node).steps.held.length ≠ 0) := by decide +kernel

/-! ## Witnesses: frames -/

theorem witness_FrameReadsBackFromItsOctets : largest.payload.length ≤ 96 := by decide +kernel

theorem witness_WholeFrameIsClassified : node.ReadyForFrame ∧ largest.payload.length ≤ 96 := by decide +kernel

theorem witness_ForeignFramesAreRepeated :
    let own := frameTo 0 12 0x54 255 []
    let foreign := frameTo 77 0 0x52 1 []
    let toHead := frameTo 0 77 0x54 255 []
    let spent := frameTo 77 0 0x51 0 [0, 0, 0, 0, 0, 255, 255]
    node.ReadyForFrame ∧ node.table.unitAddress = some own.src
      ∧ (node.table.unitAddress ≠ some foreign.src ∧ node.table.matching foreign.dest = none ∧ foreign.hops ≠ 0)
      ∧ (node.table.unitAddress ≠ some toHead.src ∧ toHead.dest = 0 ∧ toHead.hops ≠ 0)
      ∧ (node.table.unitAddress ≠ some spent.src ∧ node.table.matching spent.dest = none ∧ spent.hops = 0) := by
  decide +kernel

/-- A node whose entries 0, 1 and 8 accept no mark and no schedule. -/
def deaf : State :=
  { node with table := [0, 1, 8].foldl (fun t i => t.setEntry i
      { t.entries[i] with acceptMark := false, acceptSchedule := false }) node.table }

/-- A frame reaches an entry of a node that can receive it. -/
abbrev comesTo (s : State) (f : Frame) (i : Fin 9) : Prop :=
  s.ReadyForFrame ∧ f.payload.length ≤ 96 ∧ s.table.unitAddress ≠ some f.src ∧ f.dest ≠ 0
    ∧ s.table.matching f.dest = some i

theorem test_matching :
    node.table.Law ∧ node.table.matching 40 = some 1 ∧ node.table.matching 255 = some 8
      ∧ node.table.matching 41 = none := by decide +kernel

theorem witness_RefusedFramesAreDiscardedOrRepeated :
    let mark : Frame := frameTo 12 0 0x51 1 [0, 0, 0, 0, 0, 0, 0]
    let schedule : Frame := frameTo 40 0 0x52 1 []
    let reply : Frame := frameTo 12 0 0x54 1 []
    let shortMark : Frame := frameTo 255 0 0x51 1 [0]
    let command : Frame := frameTo 40 0 0x53 1 [8]
    let long : Frame := frameTo 255 0 0x53 1 [8, 0]
    (comesTo deaf mark 0 ∧ mark.kindOf = .timeMark ∧ deaf.table.entries[(0 : Fin 9)].acceptMark = false)
      ∧ (comesTo deaf schedule 1 ∧ schedule.kindOf = .schedule
        ∧ deaf.table.entries[(1 : Fin 9)].acceptSchedule = false)
      ∧ (comesTo node reply 0 ∧ reply.kindOf = .reply)
      ∧ (comesTo node shortMark 8 ∧ shortMark.kindOf = .unknown)
      ∧ (comesTo node command 1 ∧ command.kindOf = .command)
      ∧ (comesTo node long 8 ∧ long.kindOf = .command ∧ long.payload ≠ [8]) :=
  ⟨by decide +kernel, by decide +kernel, by decide +kernel, by decide +kernel, by decide +kernel, by decide +kernel⟩

/-! ## Witnesses: network time -/

theorem witness_TimeMarkIsTaken :
    (node.Reaches toNode 0 ∧ node.table.entries[(0 : Fin 9)].acceptMark = true)
      ∧ (node.Reaches (toAddress 40) 1 ∧ node.table.entries[(1 : Fin 9)].acceptMark = true)
      ∧ (node.Reaches (toAddress 255) 8 ∧ node.table.entries[(8 : Fin 9)].acceptMark = true) := by decide +kernel

/-- How far a mark without hops lies from network time. -/
def offsetOf (t : Timebase) (markTime : Word32) : Nat :=
  (markTime + BitVec.ofNat 32 ((0 : Octet).toNat * t.hopDelay) - t.networkTime).toInt.natAbs

/-- The Timebase of the node in another sync state. -/
def inState (sync : SyncState) (good outliers : Nat) : Timebase :=
  { locked with sync, goodMarks := good, outliers }

theorem witness_AgreeingMarksSlewTime :
    (locked.epoch = some 3 ∧ offsetOf (inState .acquiring 1 0) 5000008 ≤ 8 ∧ (inState .acquiring 1 0).goodMarks < 2)
      ∧ (offsetOf (inState .acquiring 2 0) 4999992 ≤ 8 ∧ 2 ≤ (inState .acquiring 2 0).goodMarks)
      ∧ (locked.sync = .locked ∧ offsetOf locked 5000200 ≤ locked.slewLimit)
      ∧ (locked.slewLimit < offsetOf locked 4999799 ∧ locked.outliers = 0)
      ∧ ((inState .holdover 3 0).sync = .holdover ∧ offsetOf (inState .holdover 3 0) 4999800 ≤ locked.slewLimit) := by
  decide +kernel

theorem witness_DisagreeingMarksStepTime :
    Timebase.reset.sync = .unsynced
      ∧ ((inState .acquiring 1 0).sync = .acquiring ∧ locked.epoch ≠ some 4
        ∧ locked.lockWindow < offsetOf (inState .acquiring 1 0) 5000009)
      ∧ (locked.sync = .locked ∧ locked.epoch ≠ some 4)
      ∧ ((inState .locked 3 1).epoch = some 3 ∧ locked.slewLimit < offsetOf (inState .locked 3 1) 5000201
        ∧ (inState .locked 3 1).outliers ≠ 0)
      ∧ ((inState .holdover 3 0).sync = .holdover ∧ locked.slewLimit < offsetOf (inState .holdover 3 0) 4999799) := by
  decide +kernel

theorem witness_SyncTimersEndSync :
    let acquiring : Timebase := { locked with sync := .acquiring, markTimer := some 0 }
    let ended : Timebase := { locked with markTimer := some 0 }
    let held : Timebase := { locked with sync := .holdover, holdoverTimer := some 0 }
    (acquiring.markTimer = some 0 ∧ acquiring.sync = .acquiring) ∧ (ended.markTimer = some 0 ∧ ended.sync = .locked)
      ∧ (held.holdoverTimer = some 0 ∧ held.sync = .holdover) := by decide +kernel

/-! ## Witnesses: the Step Queue -/

theorem witness_ScheduleReadsBackFromItsOctets :
    let last : Step := { stepOf 65535 0xFFFFFFFF .c 255 with mask := 255, mode := .breakBeforeMake, pulse := some 1 }
    let fits (sts : List Step) := 1 ≤ sts.length ∧ sts.length ≤ 8 ∧ ∀ st ∈ sts, st.source = 0 ∧ st.pulse ≠ some 0
    fits [stepOf 0 0 .a 0] ∧ fits (List.replicate 8 last) := by decide +kernel

/-- R86: COUNT 0 and 9, a record cut short, an octet too many, a reserved control bit and bank field 3 are malformed; a
present width of 0 is no width. -/
theorem test_malformed_schedules :
    [[0], 9 :: List.replicate 81 0, [1, 0, 7, 0, 0, 0, 5, 0, 1], [1, 0, 7, 0, 0, 0, 5, 0, 1, 1, 0],
        [1, 0, 7, 0, 0, 0, 5, 0x20, 1, 1], [1, 0, 7, 0, 0, 0, 5, 0x03, 1, 1], [1, 0, 7, 0, 0, 0, 5, 0x10, 1, 1, 0]].map
          (readSchedule 0) = List.replicate 7 none
      ∧ readSchedule 0 [1, 0, 7, 0, 0, 0, 5, 0x18, 1, 1, 0, 0] = some [stepOf 7 5 .a 1] := by decide +kernel

/-- A node whose group entry took the schedule SEQ given last. -/
def afterSchedule (l : Word16) : State :=
  { node with table := node.table.setEntry 1 { node.table.entries[1] with lastSeq := some l } }

/-- How far a SEQ lies after the one taken last (R54). -/
def placesAfter (seq l : Word16) : Nat := (seq - l).toNat

theorem witness_ScheduleIsCheckedThenOffered :
    let at' (s : State) := s.Reaches (toAddress 40) 1 ∧ s.table.entries[(1 : Fin 9)].acceptSchedule = true
    let steps := [{ stepOf 9 5000001 .b 1 with source := 1 }]
    (at' node ∧ node.table.entries[(1 : Fin 9)].lastSeq = none ∧ readSchedule 1 (schedulePayload steps) = some steps)
      ∧ (at' (afterSchedule 33070) ∧ (afterSchedule 33070).table.entries[(1 : Fin 9)].lastSeq = some 33070
        ∧ placesAfter 301 33070 = 32767 ∧ readSchedule 1 [0] = none)
      ∧ (at' (afterSchedule 33069) ∧ (afterSchedule 33069).table.entries[(1 : Fin 9)].lastSeq = some 33069
        ∧ placesAfter 301 33069 = 32768)
      ∧ placesAfter 301 301 = 0 :=
  ⟨by decide +kernel, by decide +kernel, by decide +kernel, by decide +kernel⟩

theorem witness_AcceptedStepsTakeTheirPlace :
    let st := stepOf 42 5002000 .a 0
    let late := stepOf 41 5000000 .c 1
    (isAfter st.due node.time.networkTime = true
        ∧ node.steps.held = [stepOf 7 5002000 .a 1] ++ [stepOf 8 5006200 .b 1]
        ∧ (∀ x ∈ [stepOf 7 5002000 .a 1], isAfter x.due st.due = false)
        ∧ ∀ x ∈ [stepOf 8 5006200 .b 1], isAfter x.due st.due = true)
      ∧ (isAfter late.due node.time.networkTime = false ∧ node.run = .armed)
      ∧ (isAfter late.due safeNode.time.networkTime = false ∧ safeNode.run ≠ .armed) := by decide +kernel

theorem witness_DueStepsAreAppliedOrSuppressed :
    let due (s : State) : State := { s with time.networkTime := 5002000 }
    (due node).steps.held = stepOf 7 5002000 .a 1 :: [stepOf 8 5006200 .b 1]
      ∧ isAfter 5002000 (due node).time.networkTime = false ∧ (due node).run = .armed
      ∧ (due safeNode).steps.held = stepOf 7 5002000 .a 1 :: [stepOf 8 5006200 .b 1] ∧ (due safeNode).run ≠ .armed := by
  decide +kernel

theorem witness_TimeStepsMoveTheQueue :
    let on : State := { node with time.networkTime := 5002000 }
    (∀ x ∈ node.steps.held.head?, isAfter x.due node.time.networkTime = true)
      ∧ (on.steps.held = stepOf 7 5002000 .a 1 :: [stepOf 8 5006200 .b 1]
        ∧ isAfter (5002000 : Word32) on.time.networkTime = false)
      ∧ (let far (s : State) (st : Step) : Bool := decide (s.steps.acceptWindow < (st.due - s.time.networkTime).toNat)
        (node.steps.held.filter (far node)).length = 0
          ∧ (node.steps.held.filter (far { node with steps.acceptWindow := 1999 })).length ≠ 0) := by decide +kernel

/-! ## Witnesses: the Output Unit and Run Control -/

theorem witness_AppliedStepActsLineByLine :
    let p : BankStep := { value := 0x06, mask := 0x07, mode := .breakBeforeMake, pulse := some 1 }
    let b : Bank := { Bank.reset with latch := 0x02 }
    let immediate : Bank := { b with deadTime := 0 }
    inSet p.mask 7 = false
      ∧ (inSet p.mask 0 = true ∧ inSet p.value 0 = false)
      ∧ (inSet p.mask 1 = true ∧ inSet p.value 1 = true ∧ inSet b.latch 1 = true)
      ∧ (inSet p.mask 2 = true ∧ inSet p.value 2 = true ∧ inSet b.latch 2 = false
        ∧ p.mode = .breakBeforeMake ∧ b.deadTime ≠ 0)
      ∧ (inSet immediate.latch 2 = false ∧ ¬(immediate.transition ≠ none ∨ immediate.deadTime ≠ 0)) := by decide +kernel

theorem witness_OutputExpiriesActOnTheirBank :
    let t : Transition := { makeSet := 0x81, timer := 7, pulses := Vector.replicate 8 none }
    let b : Bank := { Bank.reset with
      transition := some { t with timer := 0 }
      lines := (Bank.reset.lines.set 3 (.pulse true 0 .plain)).set 7 (.cadence 2 1 0 true) }
    let s : State := { node with out.bankC := b }
    let c : Bank := { Bank.reset with
      lines := (Bank.reset.lines.set 0 (.pulse true 0 .breakBeforeMake)).set 7 (.pulse true 0 .plain) }
    let inPlain (j : Fin 8) := inSet 0x80 j = true ↔ c.lines[j] = .pulse true 0 .plain
    ((s.out.bank .c).transition = some { t with timer := 0 } ∧ (s.out.bank .c).lines[(3 : Fin 8)] = .pulse true 0 .plain
        ∧ (s.out.bank .c).lines[(7 : Fin 8)] = .cadence 2 1 0 true)
      ∧ (c.Law ∧ (∀ j, inPlain j) ∧ c.lines[(0 : Fin 8)] = .pulse true 0 .breakBeforeMake ∧ c.transition = none
        ∧ c.deadTime ≠ 0 ∧ inSet c.latch 0 = false) := by decide +kernel

theorem witness_BroadcastDisarmReachesSafe :
    let h : Header := toAddress 255
    (node.Reaches h 8 ∧ node.run = .armed)
      ∧ (({ node with run := .failsafe } : State).Reaches h 8 ∧ ({ node with run := .failsafe } : State).run = .failsafe)
      ∧ (safeNode.Reaches h 8 ∧ safeNode.run = .safe) := by decide +kernel

/-! ## Witnesses: the transmitter -/

theorem witness_JoiningBuffersWaitOrAreTaken :
    (sending .fromInsert).tx.state.isSending = true
      ∧ (node.tx.state = .idleFill ∧ node.pool.repeatQueue = [] ∧ node.tx.insertQueue = []) := by decide +kernel

theorem witness_CompletionFreesAndArbitrates :
    let s := sending .fromRepeat
    let both (credit : Nat) : State :=
      { s with pool.repeatQueue := [buffer], tx.insertQueue := [buffer], tx.credit := credit }
    (s.tx.state = .sending buffer .fromRepeat ∧ (buffer.resetReply && s.cmd.resetPending) = false
        ∧ s.pool.repeatQueue = [] ∧ s.tx.insertQueue = [])
      ∧ (({ s with pool.repeatQueue := [buffer] } : State).pool.repeatQueue = buffer :: [])
      ∧ (({ s with tx.insertQueue := [buffer] } : State).tx.insertQueue = buffer :: [])
      ∧ ((both 1).pool.repeatQueue = buffer :: [] ∧ (both 1).tx.insertQueue = buffer :: [] ∧ (both 1).tx.credit < 2)
      ∧ ((both 2).tx.state = .sending buffer .fromRepeat ∧ 2 ≤ (both 2).tx.credit) := by decide +kernel

theorem witness_ResetReplyCompletionStartsFullReset :
    let b : Buffer := { buffer with resetReply := true }
    let s : State := { node with tx.state := .sending b .fromInsert, cmd.resetPending := true }
    s.tx.state = .sending b .fromInsert ∧ b.resetReply = true ∧ s.cmd.resetPending = true := by decide +kernel

/-! ## Witnesses: the Event List -/

theorem witness_ReportsCoalesceAppendOrOverflow :
    let one := EventList.reset.record 0 false .noBuffer
    let records (n : Nat) := List.replicate n ((Report.linkChange .up).toRecord 0 0 false)
    let same (e : EventRecord) := EventKind.noBuffer.coalesces = true ∧ e.fetched = false ∧ e.kind = .noBuffer
      ∧ e.reason = none
    (∃ e ∈ one.records.getLast?, same e)
      ∧ ((∀ e ∈ (records 15).getLast?, ¬same e) ∧ (records 15).length < 16)
      ∧ ((∀ e ∈ (records 16).getLast?, ¬same e) ∧ 16 ≤ (records 16).length) := by decide +kernel

/-! ## Witnesses: the commands -/

theorem witness_ReadCommandsReportAndKeep :
    node.Executes toNode ∧ (0 : Octet).toNat = (0 : Fin 9).val ∧ (8 : Octet).toNat = (8 : Fin 9).val
      ∧ 8 < (9 : Octet).toNat := by decide +kernel

theorem witness_StatusReportsThePage : node.Executes toNode ∧ 2 < (3 : Octet).toNat := by decide +kernel

theorem witness_AddrSetWritesTheEntry :
    let elsewhere (i : Fin 9) (a : Octet) := ∃ j : Fin 9, j ≠ i ∧ node.table.entries[j].address = some a
    node.Executes toNode ∧ (8 : Octet).toNat = (8 : Fin 9).val ∧ 8 < (9 : Octet).toNat
      ∧ ¬addressAllowed 1 255 ∧ ¬addressAllowed 8 254 ∧ addressAllowed 7 254 ∧ addressAllowed 0 1
      ∧ elsewhere 7 40 ∧ ¬elsewhere 7 254 ∧ ¬elsewhere 0 1
      ∧ (0x80 : Octet).getLsbD 7 = true ∧ (0x80 : Octet).getLsbD 3 = false ∧ (0x80 : Octet).getLsbD 6 = false := by
  decide +kernel

theorem witness_ConfigSetStoresTheParameter :
    node.Executes toNode ∧ Param.acceptWindow.inRange (536870912 : Word32).toNat
      ∧ ¬Param.acceptWindow.inRange (0 : Word32).toNat ∧ Param.linkTimeout.inRange (100 : Word32).toNat
      ∧ ¬Param.attentionLevel.inRange (3 : Word32).toNat ∧ paramOf 16 = none := by decide +kernel

/-- The node in FAILSAFE, and the node in SAFE with its marks lost. -/
def failed : State := { node with run := .failsafe }
def adrift : State := { safeNode with time.sync := .holdover }

theorem witness_ArmAndDisarmChangeTheRunState :
    (node.Executes toNode ∧ node.run = .armed)
      ∧ (safeNode.Executes toNode ∧ safeNode.run = .safe ∧ safeNode.time.sync = .locked ∧ safeNode.link.link = .up)
      ∧ (adrift.Executes toNode ∧ adrift.run ≠ .armed ∧ adrift.time.sync ≠ .locked)
      ∧ (failed.Executes toNode ∧ failed.run = .failsafe) :=
  ⟨by decide +kernel, by decide +kernel, by decide +kernel, by decide +kernel⟩

theorem witness_LineSetGivesALineItsMode :
    node.Executes toNode ∧ node.run = .armed ∧ safeNode.Executes toNode ∧ safeNode.run ≠ .armed
      ∧ (23 : Octet).toNat = 8 * (2 : Octet).toNat + (7 : Fin 8).val
      ∧ ¬(23 < (23 : Octet).toNat ∨ 1 < (1 : Word16).toNat) ∧ 23 < (24 : Octet).toNat ∧ 1 < (2 : Word16).toNat
      ∧ ¬(23 < (0 : Octet).toNat ∨ (2 : Word16).toNat < 2 ∨ (1 : Word16) = 0 ∨ (2 : Word16).toNat ≤ (1 : Word16).toNat)
      ∧ (2 : Word16).toNat ≤ (2 : Word16).toNat ∧ 1 < (2 : Octet).toNat := by decide +kernel

theorem witness_CancelRemovesTheTag :
    node.Executes toNode ∧ (node.steps.held.filter fun st => st.tag = 7).length = 1 := by decide +kernel

theorem witness_FlushRemovesTheBanks :
    let named (st : Step) : Bool := st.bank == .c
    node.Executes toNode ∧ (7 : Octet).toNat < 8 ∧ node.steps.held.length ≠ 0
      ∧ (node.steps.held.filter named).length = 0 ∧ 8 ≤ (8 : Octet).toNat := by decide +kernel

theorem witness_QueuePeekReportsSteps :
    let good (start count : Octet) := start.toNat ≤ 63 ∧ 1 ≤ count.toNat ∧ count.toNat ≤ 6
    node.Executes toNode ∧ good 63 6 ∧ good 0 1 ∧ ¬good 64 6 ∧ ¬good 0 7 ∧ ¬good 0 0 := by decide +kernel

theorem witness_EventFetchMarksTheOldest :
    let good (max : Octet) := 1 ≤ max.toNat ∧ max.toNat ≤ 4
    node.Executes toNode ∧ good 1 ∧ good 4 ∧ ¬good 0 ∧ ¬good 5 := by decide +kernel

/-- A fetched record with sequence 0. -/
def fetchedRecord : EventRecord := { Report.noBuffer.toRecord 0 0 true with fetched := true }

theorem witness_EventAckRemovesFetchedRecords :
    let events : EventList := { EventList.reset with records := [fetchedRecord], nextSeq := 1 }
    let s : State := { node with events := events }
    (s.Executes toNode ∧ s.events.records = [] ++ fetchedRecord :: [] ∧ fetchedRecord.sequence = 0
        ∧ fetchedRecord.fetched = true ∧ s.events.overflow = 0)
      ∧ ({ s with events.overflow := 1 } : State).Executes toNode
      ∧ (node.Executes toNode ∧ ∀ x ∈ node.events.records, x.sequence = 0 → x.fetched = false) := by decide +kernel

theorem witness_ResetCommandsStopOrWait :
    (safeNode.Executes toNode ∧ safeNode.run = .safe) ∧ (node.Executes toNode ∧ node.run ≠ .safe) := by decide +kernel

theorem witness_BadCommandsAreRefusedOrDropped :
    let waiting : State := { node with cmd.resetPending := true }
    let full : State := { sending .fromInsert with tx.insertQueue := [buffer, buffer], pool.free := 7 }
    let last : LastCommand := { src := toNode.src, seq := toNode.seq, payload := [1, 0, 0x68, 0] }
    let again : State := { node with cmd.last := some last }
    (node.Executes toNode ∧ commandOf 0x11 = none ∧ commandOf 0 = none)
      ∧ (waiting.ForUnit toNode ∧ waiting.cmd.resetPending = true)
      ∧ (full.ForUnit toNode ∧ full.cmd.resetPending = false ∧ 3 ≤ full.tx.insertSide)
      ∧ (again.ForUnit toNode ∧ again.tx.insertSide < 3
        ∧ ∃ l ∈ again.cmd.last, l.src = toNode.src ∧ l.seq = toNode.seq) := by decide +kernel

theorem witness_RepliesAndRecordsHaveTheirLayouts :
    let st : Step := { stepOf 7 5 .c 1 with mode := .breakBeforeMake, pulse := some 1 }
    let e : EventRecord := (Report.linkChange .down).toRecord 0 0 true
    (0x1E : Octet).toNat = 2 + 4 + 8 + 16 ∧ st.control = 0x1E ∧ (0x06 : Octet).toNat = 2 + 4 ∧ e.flags = 0x06 := by
  decide +kernel

/-! ## Witnesses: the laws -/

/-- A node in the middle of its work: a frame being sent, buffers waiting in both queues, a frame being assembled, a
pulse, a pending transition, held steps, records of both kinds, and a command that waits. -/
def busy : State :=
  { node with
    link.assembly := .assembling [1, 2, 3], link.bracketOpen := true
    pool := { free := 6, repeatQueue := [buffer] }
    tx.state := .sending buffer .fromInsert, tx.insertQueue := [{ buffer with check := 0, checkCurrent := false }]
    tx.credit := 1, tx.gap := 1
    out.bankA := { Bank.reset with
      latch := 1, lines := Bank.reset.lines.set 0 (.pulse false 3 .plain)
      transition := some { makeSet := 2, timer := 4, pulses := Vector.replicate 8 none } }
    events := { EventList.reset with records := [fetchedRecord, Report.suppressed.toRecord 1 0 true], nextSeq := 2 }
    downstream := [.frame buffer.octets, .symbol .idle]
    pending := [.tickEvent] }

theorem busy_steps : ∃ t, step busy = .next t := ⟨_, rfl⟩

theorem witness_EveryStepConservesBuffers : busy.BufferLaw ∧ ∃ t, step busy = .next t :=
  ⟨by decide +kernel, busy_steps⟩

theorem witness_EveryStepKeepsChecksRight : busy.CheckLaw ∧ ∃ t, step busy = .next t :=
  ⟨by decide +kernel, busy_steps⟩

theorem witness_EveryStepAccountsForSteps : busy.StepsAccounted ∧ ∃ t, step busy = .next t :=
  ⟨by decide +kernel, busy_steps⟩

theorem witness_EveryStepKeepsTheQueueInOrder :
    (busy.QueueOrder ∧ busy.TimeLaw ∧ busy.BankLaw) ∧ ∃ t, step busy = .next t :=
  ⟨⟨by decide +kernel, by decide +kernel, by decide +kernel⟩, busy_steps⟩

theorem witness_EveryStepKeepsTheRunLaw : busy.RunLaw ∧ ∃ t, step busy = .next t :=
  ⟨by decide +kernel, busy_steps⟩

theorem witness_EveryStepKeepsTheEventList : busy.events.Law ∧ ∃ t, step busy = .next t :=
  ⟨by decide +kernel, busy_steps⟩

theorem witness_EveryStepKeepsTheBanks : busy.BankLaw ∧ ∃ t, step busy = .next t :=
  ⟨by decide +kernel, busy_steps⟩

theorem witness_EveryStepKeepsOutputsSafe :
    let s : State := { safeNode with pending := [.tickEvent] }
    (s.SafeOutputs ∧ s.run ≠ .armed) ∧ ∃ t, step s = .next t :=
  ⟨by decide +kernel, _, rfl⟩

theorem witness_EveryStepKeepsTheAddressTable : busy.table.Law ∧ ∃ t, step busy = .next t :=
  ⟨by decide +kernel, busy_steps⟩

theorem witness_EveryStepKeepsTimersInTheirStates :
    (busy.TimeLaw ∧ busy.BufferLaw ∧ busy.link.Law) ∧ ∃ t, step busy = .next t :=
  ⟨⟨by decide +kernel, by decide +kernel, by decide +kernel⟩, busy_steps⟩

end Sys2Proof.Tests
end

section
/-! SUPPORT. The arrival of a whole good frame: its symbols one by one, and the classification at its CLOSE (R9 to R12,
R16, R35). -/

namespace Sys2Proof.Machine

/-! ## Valid symbols in IN-SYNC (R4) -/

/-- Counting n valid symbols and then m more is counting n + m. -/
theorem LinkReceiver.afterValid_afterValid (l : LinkReceiver) (n m : Nat) (a a' : Assembly) (b b' : Bool) :
    (l.afterValid n a b).afterValid m a' b' = l.afterValid (n + m) a' b' := by
  have run : min (min (l.validRun + n) 16 + m) 16 = min (l.validRun + (n + m)) 16 := by omega
  have errors : (if 16 ≤ min (l.validRun + n) 16 + m then 0 else if 16 ≤ l.validRun + n then 0 else l.errorRun)
      = if 16 ≤ l.validRun + (n + m) then 0 else l.errorRun := by
    split_ifs <;> omega
  simp only [LinkReceiver.afterValid, LinkReceiver.mk.injEq, true_and, and_true, run]
  exact errors

/-- A symbol heard and counted as valid. -/
theorem State.heard_countValid (s : State) :
    s.heard.countValid = { s with link := s.link.afterValid 1 s.link.assembly s.link.bracketOpen } := by
  have full : min (s.link.validRun + 1) 16 = 16 ↔ 16 ≤ s.link.validRun + 1 := by omega
  simp only [State.countValid, State.heard, LinkReceiver.afterValid, Config.syncRun, full]

/-- A valid symbol of the frame path: the link counts it, the bracket follows it, assembly takes it. -/
theorem State.receive_valid (s : State) (sym : Symbol) (h : s.Assembles) (valid : sym ≠ .invalid) :
    s.receive sym
      = (({ s with link := s.link.afterValid 1 s.link.assembly s.link.bracketOpen }).trackBracket sym).assemble sym := by
  have ⟨_, _, outOfBypass⟩ := h
  have heardOut : s.heard.inBypass = false := outOfBypass
  rw [s.receive_of_assembles sym h, s.heard.inSyncSymbol_valid sym heardOut valid, s.heard_countValid]

/-! ## The octets of a frame (R10, R11) -/

/-- The node inside a frame of which these octets are stored: OPEN and the octets were valid symbols, and the RECEIVING
buffer is not FREE. -/
def State.storing (s : State) (octets : List Octet) : State :=
  { s with
    link := s.link.afterValid (octets.length + 1) (.assembling octets) true
    pool.free := s.pool.free - 1 }

theorem State.storing_assembles {s : State} (h : s.Assembles) (octets : List Octet) : (s.storing octets).Assembles := h

/-- OPEN claims a FREE buffer, with no octet stored yet. -/
theorem State.receive_openSymbol_ready {s : State} (h : s.ReadyForFrame) : s.receive .openSymbol = s.storing [] := by
  obtain ⟨assembles, outside, free⟩ := h
  rw [s.receive_valid _ assembles (by decide)]
  simp [State.trackBracket, State.assemble, State.claim, LinkReceiver.afterValid, State.storing, outside, free]

/-- An octet is stored while the buffer has room. -/
theorem State.storing_receive_data {s : State} (h : s.Assembles) {octets : List Octet}
    (room : octets.length < Config.bufferOctets) (o : Octet) :
    (s.storing octets).receive (.data o) = s.storing (octets ++ [o]) := by
  have assembling (l : LinkReceiver) (n : Nat) (b : Bool) :
      (l.afterValid n (.assembling octets) b).assembly = .assembling octets := rfl
  rw [State.receive_valid _ _ (s.storing_assembles h octets) (by simp)]
  simp only [State.trackBracket, State.assemble, State.storing, assembling, LinkReceiver.afterValid_afterValid,
    if_pos room]
  simp [LinkReceiver.afterValid]

/-- A run of octets is stored while the buffer has room for all of them. -/
theorem State.storing_receive_octets {s : State} (h : s.Assembles) (os : List Octet) (octets : List Octet)
    (room : octets.length + os.length ≤ Config.bufferOctets) :
    os.foldl (fun t o => t.receive (.data o)) (s.storing octets) = s.storing (octets ++ os) := by
  induction os generalizing octets with
  | nil => simp
  | cons o os ih =>
    rw [List.length_cons] at room
    rw [List.foldl_cons, s.storing_receive_data h (by omega), ih _ (by simp; omega), List.append_assoc,
      List.singleton_append]

/-! ## The end of a good frame (R9, R12) -/

theorem Frame.onLink_checkGood (f : Frame) : checkGood f.onLink = true := by
  simp [checkGood, Frame.onLink, Frame.checkOf, crc_append_octets16_crc]

theorem Frame.onLink_lengthGood (f : Frame) (fits : f.payload.length ≤ 96) : lengthGood f.onLink = true := by
  have len := f.len_toNat fits
  refine (lengthGood_iff _).2 ⟨f.len, rfl, ?_, ?_, ?_⟩
  · simp [f.onLink_length]
  · omega
  · rw [f.onLink_length, len]

/-- Reading back the octets of a frame gives the buffer that it has filled. -/
theorem Frame.bufferOf_onLink (f : Frame) (fits : f.payload.length ≤ 96) : bufferOf f.onLink = some f.received := by
  have spelled : f.onLink = f.dest :: f.src :: f.kind :: f.hops :: f.seq.extractLsb' 8 8 :: f.seq.extractLsb' 0 8 :: f.len
      :: (f.payload ++ octets16 f.checkOf) := by
    simp [Frame.onLink, Frame.octets, octets16]
  rw [spelled]
  simp [bufferOf, f.len_toNat fits, word16_of_octets, octets16, Frame.received]

/-- At CLOSE a good frame is counted and classified. -/
theorem State.endFrame_onLink (s : State) (f : Frame) (fits : f.payload.length ≤ 96) :
    s.endFrame f.onLink
      = ({ s with link.assembly := .outside, rx.framesGood := s.rx.framesGood + 1 }).classify f.received := by
  simp [State.endFrame, f.onLink_lengthGood fits, f.onLink_checkGood, f.bufferOf_onLink fits]

/-- CLOSE after all the octets of a frame. -/
theorem State.storing_receive_closeSymbol {s : State} (h : s.Assembles) (f : Frame) (fits : f.payload.length ≤ 96) :
    (s.storing f.onLink).receive .closeSymbol = (s.atClose f).classify f.received := by
  have assembling (l : LinkReceiver) (n : Nat) (b : Bool) :
      (l.afterValid n (.assembling f.onLink) b).assembly = .assembling f.onLink := rfl
  have symbols : f.onLink.length + 1 + 1 = f.payload.length + 11 := by rw [f.onLink_length]
  rw [State.receive_valid _ _ (s.storing_assembles h f.onLink) (by decide)]
  simp only [State.trackBracket, State.assemble, State.storing, assembling, LinkReceiver.afterValid_afterValid,
    State.endFrame_onLink _ f fits, symbols]
  rfl

/-- A frame that can be received arrives whole and is classified. -/
theorem State.receiveFrame_ready {s : State} (h : s.ReadyForFrame) (f : Frame) (fits : f.payload.length ≤ 96) :
    s.receiveFrame f = (s.atClose f).classify f.received := by
  have ⟨assembles, _, _⟩ := h
  have room : ([] : List Octet).length + f.onLink.length ≤ Config.bufferOctets := by
    simp only [List.length_nil, f.onLink_length, Config.bufferOctets]
    omega
  calc s.receiveFrame f
      = (f.onLink.foldl (fun t o => t.receive (.data o)) (s.receive .openSymbol)).receive .closeSymbol := rfl
    _ = (s.storing f.onLink).receive .closeSymbol := by
        rw [State.receive_openSymbol_ready h, State.storing_receive_octets assembles _ _ room, List.nil_append]
    _ = (s.atClose f).classify f.received := State.storing_receive_closeSymbol assembles f fits

end Sys2Proof.Machine
end

section
/-! SUPPORT. A command that reaches the node: from its frame's arrival to its work, and the reply that records it (R24,
R41, R141, R144 to R146). -/

namespace Sys2Proof.Machine

/-! ## From the frame to the Command Unit (R21, R24, R141) -/

/-- The unit address matches entry 0, which comes before every other entry (R21, R50). -/
theorem AddressTable.matching_unitAddress (t : AddressTable) (a : Octet) (h : t.unitAddress = some a) :
    t.matching a = some 0 := by
  have first : List.finRange 9 = 0 :: (List.finRange 8).map Fin.succ := List.finRange_succ
  have held : (t.entries[(0 : Fin 9)].address == some a) = true := by simpa [AddressTable.unitAddress] using h
  simp only [AddressTable.matching, first, List.find?_cons, held]

/-- A command to the node alone is counted as consumed and taken by the Command Unit. -/
theorem State.classify_command {s : State} {h : Header} (c : CommandCode) (params : List Octet) (u : s.ForUnit h) :
    (s.atClose (commandFrame h c params)).classify (commandFrame h c params).received
      = (s.taken (commandFrame h c params)).takeCommand (commandFrame h c params).received := by
  obtain ⟨_, unit, notZero, notOwn⟩ := u
  have unitKept (f : Frame) : (s.atClose f).table = s.table := rfl
  have headerKept : (commandFrame h c params).received.frame.src = h.src
      ∧ (commandFrame h c params).received.frame.dest = h.dest := ⟨rfl, rfl⟩
  have sentByOther : some h.dest ≠ some h.src := by simpa using Ne.symm notOwn
  simp only [State.classify, unitKept, headerKept, unit, sentByOther, notZero, if_false,
    s.table.matching_unitAddress h.dest unit, if_true]
  rfl

/-- Case 4 of R141: no reset is pending, the insert side has room, the command is no duplicate. -/
theorem State.takeCommand_executes {s : State} (b : Buffer) (noReset : s.cmd.resetPending = false)
    (room : s.tx.insertSide < Config.insertLimit)
    (fresh : ∀ l ∈ s.cmd.last, ¬(l.src = b.frame.src ∧ l.seq = b.frame.seq)) :
    s.takeCommand b = s.executeCommand b := by
  have notDuplicate : s.cmd.duplicate b.frame = none := by
    unfold CommandUnit.duplicate
    split
    next l recorded => simpa [LastCommand.isOf] using fresh l recorded
    next => rfl
  simp [State.takeCommand, noReset, notDuplicate, room]

/-- The arrival of a command that the node executes. -/
theorem State.receiveFrame_command {s : State} {h : Header} (c : CommandCode) (params : List Octet)
    (fits : params.length < 96) (x : s.Executes h) :
    s.receiveFrame (commandFrame h c params)
      = (s.taken (commandFrame h c params)).executeCommand (commandFrame h c params).received := by
  obtain ⟨unit, noReset, room, fresh⟩ := x
  have payloadFits : (commandFrame h c params).payload.length ≤ 96 := fits
  rw [State.receiveFrame_ready unit.1 _ payloadFits, State.classify_command c params unit]
  exact State.takeCommand_executes _ noReset room fresh

/-! ## From the Command Unit to the reply (R144 to R146) -/

/-- Each command is named by its own code. -/
@[simp] theorem commandOf_octet (c : CommandCode) : commandOf c.octet = some c := by
  cases c <;> rfl

theorem executePayload_command (s : State) (c : CommandCode) (params : List Octet) :
    executePayload s (c.octet :: params) = runCommand c s params := by
  simp only [executePayload, commandOf_octet]

/-- Executing a command that neither waits for a full reset nor moves the unit address answers it from the state its work
leaves. -/
theorem State.executeCommand_received (s t : State) (f : Frame) (r : CommandResult) (data : List Octet)
    (ran : executePayload s f.payload = { state := t, result := r, data, newUnit := none, fullReset := false }) :
    s.executeCommand f.received = t.answered f f.codeOctet r data := by
  have payload : f.received.frame.payload = f.payload := rfl
  simp only [State.executeCommand, payload, ran, Bool.or_false]
  rfl

/-- A command that is executed and leaves its work's state, result and data: the whole state after its arrival. -/
theorem State.receiveFrame_answered {s : State} {h : Header} (c : CommandCode) (params : List Octet)
    (fits : params.length < 96) (x : s.Executes h) (t : State) (r : CommandResult) (data : List Octet)
    (ran : runCommand c (s.taken (commandFrame h c params)) params
      = { state := t, result := r, data, newUnit := none, fullReset := false }) :
    s.receiveFrame (commandFrame h c params) = t.answered (commandFrame h c params) c.octet r data := by
  rw [State.receiveFrame_command c params fits x]
  exact State.executeCommand_received _ t _ r data ((executePayload_command _ c params).trans ran)

end Sys2Proof.Machine
end

section
/-! The statements about the commands that read: IDENT, ADDR-GET, CONFIG-GET (R60, R147, R149, R151). -/

namespace Sys2Proof.Machine

/-! ## IDENT (R147) -/

theorem runIdent_at (s : State) (a : Octet) (unit : s.table.unitAddress = some a) :
    runIdent s [] = .done s [0x09, 0x7E, 0x42, s.table.strapValue.zeroExtend 8, a] := by
  simp only [runIdent, unit, Option.getD_some]
  rfl

theorem exec_ident {s : State} {h : Header} (x : s.Executes h) :
    exec (.ident h) s
      = .next ((s.taken (commandFrame h .ident [])).answered (commandFrame h .ident []) 0x01 .done
          [0x09, 0x7E, 0x42, s.table.strapValue.zeroExtend 8, h.dest]) := by
  have ⟨⟨_, unit, _⟩, _⟩ := x
  exact congrArg _ (State.receiveFrame_answered .ident [] (by simp) x _ _ _ (runIdent_at _ h.dest unit))

/-! ## ADDR-GET (R60, R149) -/

theorem entryIndex_of_toNat {index : Octet} {i : Fin 9} (h : index.toNat = i.val) : entryIndex index = some i := by
  simp [entryIndex, h]

theorem entryIndex_of_large {index : Octet} (h : 8 < index.toNat) : entryIndex index = none := by
  simp [entryIndex, Nat.not_lt.2 h]

/-- The entry flags bit by bit (Table 11.6). -/
theorem AddrEntry.flags_bits (e : AddrEntry) :
    e.flags = (if e.address.isSome then BitVec.twoPow 8 7 else 0) ||| (if e.lastSeq.isSome then BitVec.twoPow 8 6 else 0)
      ||| (if e.acceptSchedule then BitVec.twoPow 8 5 else 0) ||| (if e.acceptMark then BitVec.twoPow 8 4 else 0)
      ||| e.bankMask.zeroExtend 8 := by
  unfold AddrEntry.flags
  generalize e.address.isSome = enabled, e.lastSeq.isSome = held, e.acceptSchedule = schedule, e.acceptMark = mark,
    e.bankMask = mask
  decide +revert

theorem runAddrGet_entry (s : State) {index : Octet} {i : Fin 9} (h : index.toNat = i.val) :
    runAddrGet s [index] = .done s (s.table.entries[i].replyOctets index) := by
  simp only [runAddrGet, entryIndex_of_toNat h]

theorem runAddrGet_large (s : State) {index : Octet} (h : 8 < index.toNat) :
    runAddrGet s [index] = .refused s .badValue := by
  simp only [runAddrGet, entryIndex_of_large h]

theorem exec_addrGet_entry {s : State} {h : Header} {index : Octet} {i : Fin 9} (x : s.Executes h)
    (named : index.toNat = i.val) :
    exec (.addrGet h index) s
      = .next ((s.taken (commandFrame h .addrGet [index])).answered (commandFrame h .addrGet [index]) 0x03 .done
          (s.table.entries[i].replyOctets index)) :=
  congrArg _ (State.receiveFrame_answered .addrGet [index] (by simp) x _ _ _ (runAddrGet_entry _ named))

theorem exec_addrGet_large {s : State} {h : Header} {index : Octet} (x : s.Executes h) (large : 8 < index.toNat) :
    exec (.addrGet h index) s
      = .next ((s.taken (commandFrame h .addrGet [index])).answered (commandFrame h .addrGet [index]) 0x03
          .badValue []) :=
  congrArg _ (State.receiveFrame_answered .addrGet [index] (by simp) x _ _ _ (runAddrGet_large _ large))

/-! ## CONFIG-GET (R151) -/

/-- The number that a parameter stands at. -/
def State.paramNumber (s : State) : Param → Nat
  | .acceptWindow => s.steps.acceptWindow
  | .lateLimit => s.steps.lateLimit
  | .deadTime id => (s.out.bank id).deadTime.toNat
  | .safePattern id => (s.out.bank id).safePattern.toNat
  | .lockWindow => s.time.lockWindow
  | .slewLimit => s.time.slewLimit
  | .markTimeout => s.time.markTimeout
  | .holdoverLimit => s.time.holdoverLimit
  | .hopDelay => s.time.hopDelay
  | .linkTimeout => s.link.linkTimeout
  | .attentionLevel => match s.events.attentionLevel with
    | .info => 0
    | .warning => 1
    | .alarm => 2

/-- The value of a parameter in a reply is its number in 32 bits. -/
theorem State.paramValue_eq_ofNat (s : State) (p : Param) : s.paramValue p = BitVec.ofNat 32 (s.paramNumber p) := by
  cases p with
  | attentionLevel =>
    simp only [State.paramValue, State.paramNumber]
    cases s.events.attentionLevel <;> rfl
  | deadTime id | safePattern id => simp [State.paramValue, State.paramNumber]
  | _ => rfl

/-- The arrival of a frame leaves every parameter as it stands. -/
theorem State.taken_paramNumber (s : State) (f : Frame) (p : Param) : (s.taken f).paramNumber p = s.paramNumber p := by
  cases p <;> rfl

theorem exec_configGet_named {s : State} {h : Header} {number : Octet} {p : Param} (x : s.Executes h)
    (named : paramOf number = some p) :
    exec (.configGet h number) s
      = .next ((s.taken (commandFrame h .configGet [number])).answered (commandFrame h .configGet [number]) 0x05 .done
          (number :: octets32 (BitVec.ofNat 32 (s.paramNumber p)))) := by
  refine congrArg _ (State.receiveFrame_answered .configGet [number] (by simp) x _ _ _ ?_)
  simp only [runCommand, runConfigGet, named, State.paramValue_eq_ofNat, State.taken_paramNumber]
  rfl

theorem exec_configGet_unnamed {s : State} {h : Header} {number : Octet} (x : s.Executes h)
    (unnamed : paramOf number = none) :
    exec (.configGet h number) s
      = .next ((s.taken (commandFrame h .configGet [number])).answered (commandFrame h .configGet [number]) 0x05
          .badValue []) := by
  refine congrArg _ (State.receiveFrame_answered .configGet [number] (by simp) x _ _ _ ?_)
  simp only [runCommand, runConfigGet, unnamed]
  rfl

/-- Settles O36: each command is executed in its buffer, its work is a reading of the state at the frame's CLOSE, and the
reply is the only thing that it leaves. -/
theorem readCommandsReportAndKeep : Obligations.ReadCommandsReportAndKeep := by
  unfold Obligations.ReadCommandsReportAndKeep
  refine ⟨fun _ _ x => exec_ident x, fun _ _ _ _ x => ⟨fun named => ?_, exec_addrGet_large x⟩,
    fun s h number x => ?_⟩
  · rw [exec_addrGet_entry x named, AddrEntry.replyOctets, AddrEntry.flags_bits]
  · intro f t value
    have byNumber : value = (paramOf number).map s.paramNumber := by
      unfold value paramOf
      match number.toNat with
      | 0 | 1 | 2 | 3 | 4 | 5 | 6 | 7 | 8 | 9 | 10 | 11 | 12 | 13 | 14 | 15 | _ + 16 => rfl
    rw [byNumber]
    cases named : paramOf number with
    | none => exact ⟨by simp, fun _ => exec_configGet_unnamed x named⟩
    | some p =>
      refine ⟨fun v read => ?_, by simp⟩
      obtain rfl : s.paramNumber p = v := by simpa using read
      exact exec_configGet_named x named

end Sys2Proof.Machine
end

section
/-! SUPPORT. The account of the Step Queue: how far the accepted counter is ahead of the six outcomes and the steps held,
and that each operation leaves it as it is or moves it by what it counts (R105). -/

namespace Sys2Proof.Machine

/-! ## The balance of the account -/

/-- The accepted steps for which neither an outcome nor a held step stands, modulo 2^32. -/
def StepQueue.unaccounted (q : StepQueue) : Word32 :=
  q.counters.accepted - (q.counters.applied + q.counters.lateApplied + q.counters.lateDropped + q.counters.suppressed
    + q.counters.cancelled + q.counters.flushed) - BitVec.ofNat 32 q.held.length

/-- R105 holds when no accepted step is unaccounted for. -/
theorem State.stepsAccounted_iff (s : State) : s.StepsAccounted ↔ s.steps.unaccounted = 0 := by
  rw [StepQueue.unaccounted, sub_sub]
  exact sub_eq_zero.symm

theorem ofNat_succ_word32 (n : Nat) : BitVec.ofNat 32 (n + 1) = BitVec.ofNat 32 n + 1 := BitVec.ofNat_add n 1

/-- Steps that leave the queue are to be accounted for. -/
theorem StepQueue.unaccounted_of_removed (q : StepQueue) (kept : List Step) (n : Nat)
    (left : kept.length + n = q.held.length) :
    ({ q with held := kept } : StepQueue).unaccounted = q.unaccounted + BitVec.ofNat 32 n := by
  simp only [StepQueue.unaccounted, ← left, BitVec.ofNat_add]
  ring

/-- What a filter removes and what it keeps are all the steps. -/
theorem length_filter_not_add_countP (p : Step → Bool) (held : List Step) :
    (held.filter fun st => !p st).length + held.countP p = held.length := by
  rw [List.countP_eq_length_filter, Nat.add_comm]
  exact (List.length_eq_length_filter_add p).symm

variable (s : State)

/-! ## Outcomes (R92, R93, R96, R101) -/

theorem State.suppress_unaccounted : s.suppress.steps.unaccounted = s.steps.unaccounted - 1 := by
  simp only [State.suppress_steps, StepQueue.unaccounted]
  ring

theorem State.applyLate_unaccounted (st : Step) (lateness : Nat) :
    (s.applyLate st lateness).steps.unaccounted = s.steps.unaccounted - 1 := by
  simp only [State.applyLate_steps, StepQueue.unaccounted]
  ring

theorem State.countFlushed_unaccounted (c : FlushCause) (n : Nat) :
    (s.countFlushed c n).steps.unaccounted = s.steps.unaccounted - BitVec.ofNat 32 n := by
  simp only [State.countFlushed_steps, StepQueue.unaccounted]
  ring

/-- A flush accounts for the steps that it removes. -/
theorem State.countFlushed_removed_unaccounted (c : FlushCause) (kept : List Step) (n : Nat)
    (left : kept.length + n = s.steps.held.length) :
    (({ s with steps.held := kept } : State).countFlushed c n).steps.unaccounted = s.steps.unaccounted := by
  rw [State.countFlushed_unaccounted, StepQueue.unaccounted_of_removed _ kept n left, add_sub_cancel_right]

@[simp] theorem State.flushAll_unaccounted (c : FlushCause) :
    (s.flushAll c).steps.unaccounted = s.steps.unaccounted :=
  s.countFlushed_removed_unaccounted c [] _ (Nat.zero_add _)

/-! ## Acceptance and schedules (R54, R89, R91, R92) -/

/-- An accepted step is held or has its outcome at once. -/
@[simp] theorem State.acceptStep_unaccounted (st : Step) :
    (s.acceptStep st).steps.unaccounted = s.steps.unaccounted := by
  have counted : ({ s with steps.counters.accepted := s.steps.counters.accepted + 1 } : State).steps.unaccounted
      = s.steps.unaccounted + 1 := by
    simp only [StepQueue.unaccounted]
    ring
  unfold State.acceptStep
  simp only []
  split_ifs
  · simp only [StepQueue.unaccounted, insertStep_length, ofNat_succ_word32]
    ring
  · rw [State.applyLate_unaccounted, counted, add_sub_cancel_right]
  · rw [State.suppress_unaccounted, counted, add_sub_cancel_right]

@[simp] theorem State.offerStep_unaccounted (st : Step) :
    (s.offerStep st).steps.unaccounted = s.steps.unaccounted := by
  rcases s.offerStep_cases st with ⟨_, _, rejected⟩ | ⟨_, accepted⟩
  · rw [rejected, State.report_steps]
  · rw [accepted, State.acceptStep_unaccounted]

@[simp] theorem State.offerSteps_unaccounted (sts : List Step) :
    (sts.foldl State.offerStep s).steps.unaccounted = s.steps.unaccounted := by
  induction sts generalizing s with
  | nil => rfl
  | cons st sts ih => rw [List.foldl_cons, ih, State.offerStep_unaccounted]

@[simp] theorem State.offerSchedule_unaccounted (i : Fin 9) (q : Word16) (p : List Octet) :
    (s.offerSchedule i q p).steps.unaccounted = s.steps.unaccounted := by
  unfold State.offerSchedule
  split <;> simp

@[simp] theorem State.takeSchedule_unaccounted (i : Fin 9) (f : Frame) :
    (s.takeSchedule i f).steps.unaccounted = s.steps.unaccounted := by
  unfold State.takeSchedule
  simp only []
  split <;> simp

/-! ## Due expiry (R93) -/

/-- The head step leaves the queue and is applied or suppressed. -/
@[simp] theorem State.takeDue_unaccounted : s.takeDue.steps.unaccounted = s.steps.unaccounted := by
  rcases s.takeDue_cases with idle | ⟨st, rest, held, _, ⟨_, applied⟩ | ⟨_, suppressed⟩⟩
  · rw [idle]
  · simp only [applied, StepQueue.unaccounted, held, List.length_cons, ofNat_succ_word32]
    ring
  · rw [suppressed, State.suppress_unaccounted, StepQueue.unaccounted_of_removed _ rest 1 (by rw [held, List.length_cons])]
    exact add_sub_cancel_right _ _

/-! ## Steps of network time (R73, R96, R97) -/

/-- An overtaken step has one outcome, whichever it is. -/
theorem State.overtake_unaccounted (st : Step) :
    (s.overtake st).steps.unaccounted = s.steps.unaccounted - 1 := by
  rcases s.overtake_cases st with ⟨_, late⟩ | ⟨_, suppressed⟩ | dropped
  · rw [late, State.applyLate_unaccounted]
  · rw [suppressed, State.suppress_unaccounted]
  · simp only [dropped, State.report_steps, StepQueue.unaccounted]
    ring

theorem State.overtakeAll_unaccounted (sts : List Step) :
    (sts.foldl State.overtake s).steps.unaccounted = s.steps.unaccounted - BitVec.ofNat 32 sts.length := by
  induction sts generalizing s with
  | nil => simp
  | cons st sts ih =>
    rw [List.foldl_cons, ih, State.overtake_unaccounted, List.length_cons, ofNat_succ_word32, sub_right_comm, sub_sub]

@[simp] theorem State.forwardStep_unaccounted : s.forwardStep.steps.unaccounted = s.steps.unaccounted := by
  have left (p : Step → Bool) :
      (s.steps.held.dropWhile p).length + (s.steps.held.takeWhile p).length = s.steps.held.length := by
    rw [Nat.add_comm, ← List.length_append, List.takeWhile_append_dropWhile]
  rw [State.forwardStep, State.overtakeAll_unaccounted, StepQueue.unaccounted_of_removed _ _ _ (left _),
    add_sub_cancel_right]

@[simp] theorem State.backwardStep_unaccounted : s.backwardStep.steps.unaccounted = s.steps.unaccounted :=
  s.countFlushed_removed_unaccounted .time _ _ (Nat.add_sub_of_le (List.length_filter_le _ _))

@[simp] theorem State.queueTimeStep_unaccounted (amount : Int) :
    (s.queueTimeStep amount).steps.unaccounted = s.steps.unaccounted := by
  unfold State.queueTimeStep
  split_ifs <;> simp

@[simp] theorem State.stepTime_unaccounted (x : Word32) (e : Octet) (entered : SyncState) (good : Nat) :
    (s.stepTime x e entered good).steps.unaccounted = s.steps.unaccounted := by
  unfold State.stepTime
  simp only [State.queueTimeStep_unaccounted]
  split_ifs <;> rfl

@[simp] theorem State.judgeMark_unaccounted (x : Word32) (e : Octet) :
    (s.judgeMark x e).steps.unaccounted = s.steps.unaccounted := by
  unfold State.judgeMark
  simp only []
  split
  · simp
  · split
    · split <;> simp
    · simp
  · split
    · simp
    · split
      · simp
      · split <;> simp
  · split <;> simp

@[simp] theorem State.takeMarkFrame_unaccounted (f : Frame) :
    (s.takeMarkFrame f).steps.unaccounted = s.steps.unaccounted := by
  unfold State.takeMarkFrame
  split
  · simp [State.takeMark]
  · rfl

/-! ## Run changes and the loss of sync (R78, R101, R134, R138) -/

@[simp] theorem State.enterFailsafe_unaccounted (c : RunCause) :
    (s.enterFailsafe c).steps.unaccounted = s.steps.unaccounted := by
  simp [State.enterFailsafe]

@[simp] theorem State.loseTrust_unaccounted (c : RunCause) :
    (s.loseTrust c).steps.unaccounted = s.steps.unaccounted := by
  unfold State.loseTrust
  split <;> simp

@[simp] theorem State.softReset_unaccounted : s.softReset.steps.unaccounted = s.steps.unaccounted := by
  unfold State.softReset
  split <;> simp

@[simp] theorem State.enterUnsynced_unaccounted : s.enterUnsynced.steps.unaccounted = s.steps.unaccounted := by
  simp [State.enterUnsynced]

@[simp] theorem State.expireMarkTimer_unaccounted : s.expireMarkTimer.steps.unaccounted = s.steps.unaccounted := by
  unfold State.expireMarkTimer
  split_ifs
  · split <;> simp
  · rfl

@[simp] theorem State.expireHoldoverTimer_unaccounted :
    s.expireHoldoverTimer.steps.unaccounted = s.steps.unaccounted := by
  unfold State.expireHoldoverTimer
  split_ifs
  · split <;> simp
  · rfl

@[simp] theorem State.expireLinkTimer_unaccounted : s.expireLinkTimer.steps.unaccounted = s.steps.unaccounted := by
  rcases s.expireLinkTimer_cases with ⟨_, idle⟩ | ⟨_, down⟩
  · rw [idle]
  · simp [down]

/-- No expiry leaves a step unaccounted for. -/
@[simp] theorem State.takeExpiry_unaccounted (e : Expiry) :
    (s.takeExpiry e).steps.unaccounted = s.steps.unaccounted := by
  cases e <;> simp [State.takeExpiry]

/-! ## The commands (R98, R99, R144) -/

/-- CANCEL accounts for the steps that it removes. -/
@[simp] theorem State.cancelTag_unaccounted (tag : Word16) :
    (s.cancelTag tag).steps.unaccounted = s.steps.unaccounted := by
  have left := length_filter_not_add_countP (fun st => st.tag == tag) s.steps.held
  calc (s.cancelTag tag).steps.unaccounted
      = { s.steps with held := s.steps.held.filter fun st => st.tag != tag }.unaccounted
          - BitVec.ofNat 32 (s.heldCount fun st => st.tag == tag) := by
        simp only [State.cancelTag, StepQueue.unaccounted]
        ring
    _ = s.steps.unaccounted := by
        exact sub_eq_of_eq_add (s.steps.unaccounted_of_removed _ _ left)

@[simp] theorem State.flushBanks_unaccounted (set : Octet) :
    (s.flushBanks set).steps.unaccounted = s.steps.unaccounted :=
  s.countFlushed_removed_unaccounted .command _ _ (length_filter_not_add_countP _ _)

@[simp] theorem State.writeParam_unaccounted (p : Param) (value : Word32) :
    (s.writeParam p value).steps.unaccounted = s.steps.unaccounted := by
  cases p <;> rfl

@[simp] theorem Executed.done_state (data : List Octet) : (Executed.done s data).state = s := rfl

@[simp] theorem Executed.refused_state (r : CommandResult) : (Executed.refused s r).state = s := rfl

/-- LINE-SET on a bank leaves the Step Queue alone. -/
@[simp] theorem lineSetBank_steps (id : BankId) (f : Bank → Bank) : (lineSetBank s id f).state.steps = s.steps := by
  unfold lineSetBank
  split <;> rfl

@[simp] theorem runLineSet_steps (params : List Octet) : (runLineSet s params).state.steps = s.steps := by
  unfold runLineSet
  split
  · simp only []
    split
    · split
      · rfl
      · split <;> simp
    · split
      · split
        · rfl
        · split <;> simp
      · rfl
  all_goals rfl

@[simp] theorem runAddrSet_steps (params : List Octet) : (runAddrSet s params).state.steps = s.steps := by
  unfold runAddrSet
  split
  · split
    · rfl
    · simp only []
      split_ifs <;> rfl
  all_goals rfl

@[simp] theorem runArm_steps (params : List Octet) : (runArm s params).state.steps = s.steps := by
  unfold runArm
  split
  · split_ifs <;> rfl
  · rfl

@[simp] theorem runStatus_steps (params : List Octet) : (runStatus s params).state.steps = s.steps := by
  unfold runStatus
  split
  · split_ifs <;> rfl
  all_goals rfl

theorem runConfigSet_unaccounted (params : List Octet) :
    (runConfigSet s params).state.steps.unaccounted = s.steps.unaccounted := by
  unfold runConfigSet
  split
  · simp only []
    split
    · rfl
    · split_ifs <;> simp
  all_goals rfl

/-- No command leaves a step unaccounted for. -/
@[simp] theorem runCommand_unaccounted (c : CommandCode) (params : List Octet) :
    (runCommand c s params).state.steps.unaccounted = s.steps.unaccounted := by
  cases c <;> simp only [runCommand]
  case status | addrSet | arm | lineSet => simp
  case configSet => exact runConfigSet_unaccounted s params
  case ident => unfold runIdent; split <;> simp
  case addrGet => unfold runAddrGet; (repeat split) <;> simp
  case configGet => unfold runConfigGet; (repeat split) <;> simp
  case disarm => unfold runDisarm; split <;> simp
  case cancel => unfold runCancel; split <;> simp
  case flush => unfold runFlush; (repeat split) <;> simp
  case queuePeek => unfold runQueuePeek; (repeat split) <;> simp
  case eventFetch => unfold runEventFetch; (repeat split) <;> simp
  case eventAck => unfold runEventAck; dsimp only; (repeat split) <;> simp
  case resetSoft => unfold runResetSoft; split <;> simp
  case resetFull => unfold runResetFull; split <;> simp

@[simp] theorem executePayload_unaccounted (payload : List Octet) :
    (executePayload s payload).state.steps.unaccounted = s.steps.unaccounted := by
  unfold executePayload
  split
  · rfl
  · split <;> simp

@[simp] theorem State.applyUnit_steps (unit : Option Octet) : (s.applyUnit unit).steps = s.steps := by
  cases unit <;> rfl

@[simp] theorem State.executeCommand_unaccounted (b : Buffer) :
    (s.executeCommand b).steps.unaccounted = s.steps.unaccounted := by
  simp [State.executeCommand]

@[simp] theorem State.takeCommand_unaccounted (b : Buffer) :
    (s.takeCommand b).steps.unaccounted = s.steps.unaccounted := by
  unfold State.takeCommand
  split
  · simp
  · split <;> split <;> simp

/-! ## Frames and symbols (R21 to R28, R10 to R16) -/

@[simp] theorem State.offerMark_unaccounted (e : AddrEntry) (f : Frame) :
    (s.offerMark e f).steps.unaccounted = s.steps.unaccounted := by
  unfold State.offerMark
  split <;> simp

@[simp] theorem State.offerScheduleFrame_unaccounted (i : Fin 9) (f : Frame) :
    (s.offerScheduleFrame i f).steps.unaccounted = s.steps.unaccounted := by
  unfold State.offerScheduleFrame
  split <;> simp

@[simp] theorem State.offerManyCommand_steps (i : Fin 9) (f : Frame) : (s.offerManyCommand i f).steps = s.steps := by
  unfold State.offerManyCommand
  split_ifs <;> simp [State.reportUnexpected]

@[simp] theorem State.classifyUnit_unaccounted (b : Buffer) :
    (s.classifyUnit b).steps.unaccounted = s.steps.unaccounted := by
  unfold State.classifyUnit
  split <;> simp [State.reportUnexpected]

@[simp] theorem State.classifyMany_unaccounted (i : Fin 9) (b : Buffer) :
    (s.classifyMany i b).steps.unaccounted = s.steps.unaccounted := by
  unfold State.classifyMany
  split <;> simp

@[simp] theorem State.classify_unaccounted (b : Buffer) :
    (s.classify b).steps.unaccounted = s.steps.unaccounted := by
  unfold State.classify
  split_ifs
  · simp
  · simp
  · split
    · simp
    · split_ifs <;> simp

@[simp] theorem State.endFrame_unaccounted (octets : List Octet) :
    (s.endFrame octets).steps.unaccounted = s.steps.unaccounted := by
  rcases s.endFrame_cases octets with length | check | ⟨b, _, _, _, good⟩
  · simp [length]
  · simp [check]
  · simp [good]

@[simp] theorem State.assemble_unaccounted (sym : Symbol) :
    (s.assemble sym).steps.unaccounted = s.steps.unaccounted := by
  unfold State.assemble
  split
  case h_4 => split_ifs <;> simp
  all_goals simp

@[simp] theorem State.assembleUnlessBypass_unaccounted (sym : Symbol) :
    (s.assembleUnlessBypass sym).steps.unaccounted = s.steps.unaccounted := by
  unfold State.assembleUnlessBypass
  split <;> simp

/-- No symbol leaves a step unaccounted for. -/
@[simp] theorem State.receive_unaccounted (sym : Symbol) :
    (s.receive sym).steps.unaccounted = s.steps.unaccounted := by
  unfold State.receive
  split_ifs
  · unfold State.receiverTakes State.inSyncSymbol
    split
    · simp
    · simp
    · split_ifs <;> simp
  · simp

/-! ## Resets and the transmitter (R44, R85) -/

theorem StepQueue.reset_unaccounted : StepQueue.reset.unaccounted = 0 := rfl

/-- A completion leaves the account alone, or a full reset starts it anew. -/
theorem State.completeTransmission_unaccounted (straps : BitVec 6) (balanced : s.steps.unaccounted = 0) :
    (s.completeTransmission straps).steps.unaccounted = 0 := by
  unfold State.completeTransmission
  split
  · exact balanced
  · exact balanced
  · simp only []
    split_ifs
    · exact StepQueue.reset_unaccounted
    · simpa using balanced

end Sys2Proof.Machine
end

section
/-! The statements about the Step Queue: its account at every step (R105), CANCEL, FLUSH and QUEUE-PEEK (R98, R99, R103). -/

namespace Sys2Proof.Machine

/-! ## The account (R105) -/

/-- Settles O51: every command leaves the balance of the account as it is, or a reset starts it at 0. -/
theorem everyStepAccountsForSteps : Obligations.EveryStepAccountsForSteps := by
  unfold Obligations.EveryStepAccountsForSteps
  refine ⟨(State.stepsAccounted_iff _).2 StepQueue.reset_unaccounted, ?_⟩
  simp only [State.stepsAccounted_iff]
  refine step_keeps (fun _ _ balanced => balanced) (exec_keeps ?fell ?rose ?chosen ?taken ?left ?counted ?received ?idled
    ?completed)
  case fell => exact fun _ _ => StepQueue.reset_unaccounted
  case rose => exact fun _ _ _ => StepQueue.reset_unaccounted
  case chosen => exact fun _ _ balanced => balanced
  case taken => exact fun s e balanced => (s.takeExpiry_unaccounted e).trans balanced
  case left => exact fun s balanced => by simpa using balanced
  case counted => exact fun s balanced => by simpa using balanced
  case received => exact fun s sym balanced => (s.receive_unaccounted sym).trans balanced
  case idled => exact fun s balanced => by simpa using balanced
  case completed => exact State.completeTransmission_unaccounted

/-! ## CANCEL (R98, R156) -/

theorem runCancel_tag (s : State) (tag : Word16) :
    runCancel s (octets16 tag) = .done (s.cancelTag tag) [octetOf (s.heldCount fun st => st.tag == tag)] := by
  simp only [octets16, runCancel, word16_of_octets]

theorem State.heldCount_eq_length (s : State) (p : Step → Bool) : s.heldCount p = (s.steps.held.filter p).length :=
  List.countP_eq_length_filter

/-- Settles O42: the parameters spell the tag, and the number in the reply is that of the steps with the tag. -/
theorem cancelRemovesTheTag : Obligations.CancelRemovesTheTag := by
  unfold Obligations.CancelRemovesTheTag
  intro s h tag x f t n
  have count : t.heldCount (fun st => st.tag == tag) = n := t.heldCount_eq_length _
  have work : t.cancelTag tag = { t with
      steps.held := s.steps.held.filter fun st => st.tag ≠ tag
      steps.counters.cancelled := s.steps.counters.cancelled + BitVec.ofNat 32 n } := by
    rw [State.cancelTag, count]
    simp only [bne, decide_not]
    rfl
  rw [← work, ← count]
  exact congrArg _ (State.receiveFrame_answered .cancel (octets16 tag) (by simp [octets16]) x _ _ _ (runCancel_tag t tag))

/-! ## FLUSH (R99, R157, R178) -/

/-- The reserved bits of a bank set are clear when it names the three banks alone (Table 11.6). -/
theorem reserved_clear_iff (set : Octet) : set &&& 0xF8#8 = 0 ↔ set.toNat < 8 := by
  decide +revert

theorem runFlush_banks (s : State) {set : Octet} (clear : set.toNat < 8) :
    runFlush s [set] = .done (s.flushBanks set) [octetOf (s.heldCount (·.inBanks set))] := by
  simp only [runFlush, (reserved_clear_iff set).2 clear, if_true]

theorem runFlush_reserved (s : State) {set : Octet} (reserved : 8 ≤ set.toNat) :
    runFlush s [set] = .refused s .badValue := by
  simp only [runFlush, reserved_clear_iff, Nat.not_lt.2 reserved, if_false]

theorem exec_flush_banks {s : State} {h : Header} {set : Octet} (x : s.Executes h) (clear : set.toNat < 8) :
    exec (.flush h set) s
      = .next (((s.taken (commandFrame h .flush [set])).flushBanks set).answered (commandFrame h .flush [set]) 0x0B .done
          [octetOf (s.heldCount (·.inBanks set))]) :=
  congrArg _ (State.receiveFrame_answered .flush [set] (by simp) x _ _ _ (runFlush_banks _ clear))

theorem exec_flush_reserved {s : State} {h : Header} {set : Octet} (x : s.Executes h) (reserved : 8 ≤ set.toNat) :
    exec (.flush h set) s
      = .next ((s.taken (commandFrame h .flush [set])).answered (commandFrame h .flush [set]) 0x0B .badValue []) :=
  congrArg _ (State.receiveFrame_answered .flush [set] (by simp) x _ _ _ (runFlush_reserved _ reserved))

/-- Settles O43: a set without reserved bits removes the steps of its banks, and the flush reports when it removed one. -/
theorem flushRemovesTheBanks : Obligations.FlushRemovesTheBanks := by
  unfold Obligations.FlushRemovesTheBanks
  intro s h set x f t named n u
  have inNamed : Step.inBanks set = named := by
    funext st
    simp only [Step.inBanks, named]
    cases st.bank <;> rfl
  have count : s.heldCount (·.inBanks set) = n := by rw [State.heldCount_eq_length, inNamed]
  have work : t.flushBanks set = if n = 0 then u else u.report (.flushed .command n) := by
    have countTaken : t.heldCount (·.inBanks set) = n := count
    rw [State.flushBanks, countTaken, inNamed]
    rfl
  refine ⟨fun clear none => ?_, fun clear some => ?_, exec_flush_reserved x⟩
  · rw [exec_flush_banks x clear, work, count, if_pos none, none]
    rfl
  · rw [exec_flush_banks x clear, work, count, if_neg some]

/-! ## QUEUE-PEEK (R103, R158) -/

/-- Numbering the first elements of a list from a place is reading it at the places one by one. -/
theorem map_zipIdx_take {α β : Type} (g : Nat → α → β) (c : Nat) (l : List α) (a : Nat) :
    ((l.take c).zipIdx a).map (fun p => g p.2 p.1)
      = (List.range c).filterMap fun k => l[k]?.map (g (a + k)) := by
  induction c generalizing l a with
  | zero => rfl
  | succ c ih =>
    cases l with
    | nil => simp
    | cons x xs =>
      have places (k : Nat) : a + 1 + k = a + (k + 1) := by omega
      simp [List.range_succ_eq_map, List.filterMap_map, ih, places]

/-- The octets of the steps at some positions, one step after the other. -/
theorem peek_eq (held : List Step) (start count : Nat) :
    let shown := (List.range count).filterMap fun k => held[start + k]?.map fun st => st.octets (start + k)
    ((held.drop start).take count).length = shown.length ∧ peekOctets held start count = shown.flatten := by
  intro shown
  have listed : (((held.drop start).take count).zipIdx start).map (fun p => p.1.octets p.2) = shown := by
    rw [map_zipIdx_take fun place (st : Step) => st.octets place]
    simp only [List.getElem?_drop, shown]
  refine ⟨?_, ?_⟩
  · rw [← listed, List.length_map, List.length_zipIdx]
  · exact List.flatMap_def.trans (congrArg List.flatten listed)

theorem runQueuePeek_good (s : State) {start count : Octet}
    (good : start.toNat ≤ 63 ∧ 1 ≤ count.toNat ∧ count.toNat ≤ 6) :
    runQueuePeek s [start, count]
      = .done s ([octetOf s.steps.held.length, octetOf ((s.steps.held.drop start.toNat).take count.toNat).length]
          ++ peekOctets s.steps.held start.toNat count.toNat) := by
  simp only [runQueuePeek, if_pos good]

theorem runQueuePeek_bad (s : State) {start count : Octet}
    (bad : ¬(start.toNat ≤ 63 ∧ 1 ≤ count.toNat ∧ count.toNat ≤ 6)) :
    runQueuePeek s [start, count] = .refused s .badValue := by
  simp only [runQueuePeek, if_neg bad]

/-- Settles O44: the steps of a stretch of the queue are those found at its positions one by one. -/
theorem queuePeekReportsSteps : Obligations.QueuePeekReportsSteps := by
  unfold Obligations.QueuePeekReportsSteps
  intro s h start count x f t shown good
  have answer := State.receiveFrame_answered .queuePeek [start, count] (by simp) x t
  refine ⟨fun inRange => ?_, fun outside => congrArg _ (answer .badValue [] (runQueuePeek_bad t outside))⟩
  obtain ⟨length, octets⟩ := peek_eq s.steps.held start.toNat count.toNat
  have ran := runQueuePeek_good t inRange
  rw [show t.steps.held = s.steps.held from rfl, length, octets] at ran
  exact congrArg _ (answer .done _ ran)

end Sys2Proof.Machine
end

section
/-! SUPPORT. Applying a step (R110 to R113), read off one line at a time: what the three parts of `Bank.applyStep` do to
the line's latch bit, its record, and its place and pulse in the make set. -/

namespace Sys2Proof.Machine

/-! ## One line of a bank -/

/-- What a bank holds for one line (Tables 7.1 to 7.3): the value its latch reads, its record, whether it waits in the
make set, and the pending pulse it waits with. -/
structure LineView where
  value : Bool
  mode : LineMode
  inMake : Bool
  waiting : Option PendingPulse

/-- One line of a bank. -/
def Bank.view (b : Bank) (i : Fin 8) : LineView where
  value := inSet b.latch i
  mode := b.lines[i]
  inMake := b.transition.any fun t => inSet t.makeSet i
  waiting := b.transition.bind fun t => t.pulses[i]

/-- The record of a line that takes its value at once: PULSE when the step carries a width, STATIC otherwise (R113). -/
def BankStep.lineTaken (p : BankStep) (revert : Bool) : LineMode :=
  match p.pulse with
  | none => .static
  | some w => .pulse revert w.toNat p.mode

/-- The makes of a step wait the dead time: a transition is pending, or BREAK-BEFORE-MAKE creates one (Table 7.4). -/
def Bank.delays (b : Bank) (p : BankStep) : Prop :=
  b.transition ≠ none ∨ p.mode = .breakBeforeMake ∧ b.deadTime ≠ 0

variable (b : Bank) (p : BankStep) (i : Fin 8)

theorem Bank.delays_iff_of_idle (idle : b.transition = none) :
    b.delays p ↔ p.mode = .breakBeforeMake ∧ b.deadTime ≠ 0 := or_iff_right (not_not.mpr idle)

@[simp] theorem BankStep.inSet_breaks : inSet p.breaks i = (inSet p.mask i && !inSet p.value i) := by
  simp [BankStep.breaks]

@[simp] theorem BankStep.inSet_makes (latch : Octet) :
    inSet (p.makes latch) i = (inSet p.mask i && inSet p.value i && !inSet latch i) := by
  simp [BankStep.makes]

/-- Setting the breaks to 0 first does not change which lines are makes. -/
theorem BankStep.makes_and_not_breaks (latch : Octet) : p.makes (latch &&& ~~~p.breaks) = p.makes latch := by
  refine ext_inSet _ _ fun i => ?_
  cases mask : inSet p.mask i <;> cases value : inSet p.value i <;> simp [mask, value]

/-! ## The breaks (R110) -/

theorem Bank.breakLines_view_unmasked (out : inSet p.mask i = false) : (b.breakLines p).view i = b.view i := by
  cases pending : b.transition <;> simp [Bank.view, Bank.breakLines, pending, out]

theorem Bank.breakLines_view_break (masked : inSet p.mask i = true) (zero : inSet p.value i = false) :
    (b.breakLines p).view i = { value := false, mode := .static, inMake := false, waiting := none } := by
  cases pending : b.transition <;> simp [Bank.view, Bank.breakLines, pending, masked, zero]

theorem Bank.breakLines_view_one (masked : inSet p.mask i = true) (one : inSet p.value i = true) :
    (b.breakLines p).view i = { b.view i with mode := .static } := by
  cases pending : b.transition <;> simp [Bank.view, Bank.breakLines, pending, masked, one]

/-! ## The pulses of the lines that take their value at once (R113) -/

variable (changed makes : Octet) (revert : Bool)

theorem Bank.startPulses_view_other (out : inSet changed i = false) :
    (b.startPulses p changed revert).view i = b.view i := by
  cases width : p.pulse <;> simp [Bank.view, Bank.startPulses, width, out]

theorem Bank.startPulses_view_changed (taken : inSet changed i = true) (static : b.lines[i] = .static) :
    (b.startPulses p changed revert).view i = { b.view i with mode := p.lineTaken revert } := by
  cases width : p.pulse
  · simpa [Bank.view, Bank.startPulses, BankStep.lineTaken, width] using static
  · simp [Bank.view, Bank.startPulses, BankStep.lineTaken, width, taken]

/-! ## The makes (R111, Table 7.4) -/

/-- A pending transition takes the makes into its make set. -/
theorem Bank.placeMakes_pending {t : Transition} (pending : b.transition = some t) :
    b.placeMakes p makes = { b with
      transition := some { t with
        makeSet := t.makeSet ||| makes
        pulses := Vector.ofFn fun j => if inSet makes j then p.pendingPulse else t.pulses[j] } } := by
  simp [Bank.placeMakes, pending]

/-- BREAK-BEFORE-MAKE with a dead time creates a transition for the makes, if there are any. -/
theorem Bank.placeMakes_opens (idle : b.transition = none) (delayed : b.delays p) :
    b.placeMakes p makes = if makes = 0 then b else { b with
      transition := some {
        makeSet := makes
        timer := b.deadTime.toNat
        pulses := Vector.ofFn fun j => if inSet makes j then p.pendingPulse else none } } := by
  have waits := (b.delays_iff_of_idle p idle).1 delayed
  simp only [Bank.placeMakes, idle, if_pos waits]

/-- Otherwise the makes are 1 at once. -/
theorem Bank.placeMakes_immediate (immediate : ¬b.delays p) :
    b.placeMakes p makes = ({ b with latch := b.latch ||| makes }).startPulses p makes false := by
  obtain ⟨idle, noWait⟩ := not_or.mp immediate
  simp only [Bank.placeMakes, not_not.mp idle, if_neg noWait]

theorem Bank.placeMakes_view_other (out : inSet makes i = false) : (b.placeMakes p makes).view i = b.view i := by
  cases pending : b.transition with
  | some t =>
    rw [b.placeMakes_pending p makes pending]
    simp [Bank.view, pending, out]
  | none =>
    by_cases delayed : b.delays p
    · rw [b.placeMakes_opens p makes pending delayed]
      split
      · rfl
      · simp [Bank.view, pending, out]
    · rw [b.placeMakes_immediate p makes delayed, Bank.startPulses_view_other _ p i makes false out]
      simp [Bank.view, out]

theorem Bank.placeMakes_view_delayed (make : inSet makes i = true) (delayed : b.delays p) :
    (b.placeMakes p makes).view i = { b.view i with inMake := true, waiting := p.pendingPulse } := by
  cases pending : b.transition with
  | some t =>
    rw [b.placeMakes_pending p makes pending]
    simp [Bank.view, make]
  | none =>
    have someMake : makes ≠ 0 := by
      intro noMake
      rw [noMake, inSet_zero] at make
      exact Bool.false_ne_true make
    rw [b.placeMakes_opens p makes pending delayed, if_neg someMake]
    simp [Bank.view, make]

theorem Bank.placeMakes_view_immediate (make : inSet makes i = true) (static : b.lines[i] = .static)
    (immediate : ¬b.delays p) :
    (b.placeMakes p makes).view i = { b.view i with value := true, mode := p.lineTaken false } := by
  have latched : ({ b with latch := b.latch ||| makes } : Bank).lines[i] = .static := static
  rw [b.placeMakes_immediate p makes immediate, Bank.startPulses_view_changed _ p i makes false make latched]
  simp [Bank.view, make]

/-- Placing makes keeps the timer of a pending transition, and loads the timer of one that it creates. -/
theorem Bank.placeMakes_timer :
    (b.placeMakes p makes).transition.map (·.timer)
      = match b.transition with
        | some t => some t.timer
        | none =>
          if p.mode = .breakBeforeMake ∧ b.deadTime ≠ 0 ∧ makes ≠ 0 then some b.deadTime.toNat else none := by
  cases pending : b.transition with
  | some t => rw [b.placeMakes_pending p makes pending]; rfl
  | none =>
    have delays := b.delays_iff_of_idle p pending
    by_cases delayed : b.delays p
    · obtain ⟨mode, dead⟩ := delays.1 delayed
      rw [b.placeMakes_opens p makes pending delayed]
      by_cases noMake : makes = 0
      · rw [if_pos noMake, pending, if_neg fun ⟨_, _, make⟩ => make noMake]
        rfl
      · rw [if_neg noMake, if_pos ⟨mode, dead, noMake⟩]
        rfl
    · obtain ⟨_, kept, _⟩ := Bank.startPulses_kept { b with latch := b.latch ||| makes } p makes false
      rw [b.placeMakes_immediate p makes delayed, kept,
        if_neg fun ⟨mode, dead, _⟩ => delayed (delays.2 ⟨mode, dead⟩)]
      exact congrArg _ pending

/-! ## The whole step -/

/-- A bank after the breaks of a step and their pulses, before its makes are placed. -/
def Bank.afterBreaks : Bank := (b.breakLines p).startPulses p (p.breaks &&& b.latch) true

theorem Bank.afterBreaks_kept :
    (b.afterBreaks p).latch = b.latch &&& ~~~p.breaks
      ∧ (b.afterBreaks p).transition = (b.breakLines p).transition
      ∧ (b.afterBreaks p).deadTime = b.deadTime := by
  obtain ⟨latch, transition, _, dead⟩ := Bank.startPulses_kept (b.breakLines p) p (p.breaks &&& b.latch) true
  exact ⟨latch, transition, dead⟩

/-- The makes placed after the breaks are those of the latch before the step. -/
theorem Bank.applyStep_eq : b.applyStep p = (b.afterBreaks p).placeMakes p (p.makes b.latch) := by
  obtain ⟨latch, _⟩ := b.afterBreaks_kept p
  calc b.applyStep p = (b.afterBreaks p).placeMakes p (p.makes (b.afterBreaks p).latch) := rfl
    _ = (b.afterBreaks p).placeMakes p (p.makes b.latch) := by rw [latch, p.makes_and_not_breaks b.latch]

/-- The breaks neither create nor end a pending transition. -/
theorem Bank.afterBreaks_delays : (b.afterBreaks p).delays p ↔ b.delays p := by
  obtain ⟨_, transition, dead⟩ := b.afterBreaks_kept p
  simp [Bank.delays, transition, dead, Bank.breakLines]

/-- A line given 1 is no break: it only leaves PULSE and CADENCE. -/
theorem Bank.afterBreaks_view_one (masked : inSet p.mask i = true) (one : inSet p.value i = true) :
    (b.afterBreaks p).view i = { b.view i with mode := .static } := by
  rw [Bank.afterBreaks, Bank.startPulses_view_other _ p i _ true (by simp [one]), b.breakLines_view_one p i masked one]

theorem Bank.applyStep_view_unmasked (out : inSet p.mask i = false) : (b.applyStep p).view i = b.view i := by
  rw [b.applyStep_eq p, Bank.placeMakes_view_other _ p i _ (by simp [out]), Bank.afterBreaks,
    Bank.startPulses_view_other _ p i _ true (by simp [out]), b.breakLines_view_unmasked p i out]

theorem Bank.applyStep_view_break (masked : inSet p.mask i = true) (zero : inSet p.value i = false) :
    (b.applyStep p).view i
      = { value := false
          mode := if inSet b.latch i then p.lineTaken true else .static
          inMake := false
          waiting := none } := by
  have broken := b.breakLines_view_break p i masked zero
  rw [b.applyStep_eq p, Bank.placeMakes_view_other _ p i _ (by simp [zero]), Bank.afterBreaks]
  cases read : inSet b.latch i with
  | false =>
    rw [Bank.startPulses_view_other _ p i _ true (by simp [read]), broken]
    rfl
  | true =>
    have static : (b.breakLines p).lines[i] = .static := congrArg LineView.mode broken
    rw [Bank.startPulses_view_changed _ p i _ true (by simp [masked, zero, read]) static, broken]
    rfl

theorem Bank.applyStep_view_stays (masked : inSet p.mask i = true) (one : inSet p.value i = true)
    (read : inSet b.latch i = true) : (b.applyStep p).view i = { b.view i with value := true, mode := .static } := by
  rw [b.applyStep_eq p, Bank.placeMakes_view_other _ p i _ (by simp [read]), b.afterBreaks_view_one p i masked one]
  simp [Bank.view, read]

theorem Bank.applyStep_view_delayed (masked : inSet p.mask i = true) (one : inSet p.value i = true)
    (read : inSet b.latch i = false) (delayed : b.delays p) :
    (b.applyStep p).view i
      = { value := false, mode := .static, inMake := true, waiting := p.pendingPulse } := by
  rw [b.applyStep_eq p, Bank.placeMakes_view_delayed _ p i _ (by simp [masked, one, read])
    ((b.afterBreaks_delays p).2 delayed), b.afterBreaks_view_one p i masked one]
  simp [Bank.view, read]

theorem Bank.applyStep_view_immediate (masked : inSet p.mask i = true) (one : inSet p.value i = true)
    (read : inSet b.latch i = false) (immediate : ¬b.delays p) :
    (b.applyStep p).view i
      = { value := true, mode := p.lineTaken false, inMake := false, waiting := none } := by
  have before := b.afterBreaks_view_one p i masked one
  have static : (b.afterBreaks p).lines[i] = .static := congrArg LineView.mode before
  have idle : b.transition = none := not_not.mp (not_or.mp immediate).1
  rw [b.applyStep_eq p, Bank.placeMakes_view_immediate _ p i _ (by simp [masked, one, read]) static
    (mt (b.afterBreaks_delays p).1 immediate), before]
  simp [Bank.view, idle]

/-- An existing transition keeps its timer; one that the step creates is given the dead time (R111). -/
theorem Bank.applyStep_timer :
    (b.applyStep p).transition.map (·.timer)
      = match b.transition with
        | some t => some t.timer
        | none =>
          if p.mode = .breakBeforeMake ∧ b.deadTime ≠ 0 ∧ p.makes b.latch ≠ 0 then some b.deadTime.toNat
          else none := by
  obtain ⟨_, transition, dead⟩ := b.afterBreaks_kept p
  rw [b.applyStep_eq p, Bank.placeMakes_timer, dead, transition]
  cases pending : b.transition <;> simp [Bank.breakLines, pending]

/-- Settles O28: each clause is an equation about the view of one line, for one branch of R110 to R113. -/
theorem appliedStepActsLineByLine : Obligations.AppliedStepActsLineByLine := by
  unfold Obligations.AppliedStepActsLineByLine
  intro b p i c inMake waiting pulseTo delayed makes
  refine ⟨fun out => LineView.mk.inj (b.applyStep_view_unmasked p i out), fun masked zero => ?_,
    fun masked one read => LineView.mk.inj (b.applyStep_view_stays p i masked one read),
    fun masked one read wait => LineView.mk.inj (b.applyStep_view_delayed p i masked one read wait),
    fun masked one read atOnce => LineView.mk.inj (b.applyStep_view_immediate p i masked one read atOnce),
    b.applyStep_timer p, b.applyStep_kept p⟩
  obtain ⟨latch, line, make, pulse⟩ := LineView.mk.inj (b.applyStep_view_break p i masked zero)
  exact ⟨latch, make, pulse, line⟩

end Sys2Proof.Machine
end

section
/-! The statement about the commands of Run Control: ARM and DISARM (R129, R130, R132, R153, R154, Tables 8.2 and 8.4). -/

namespace Sys2Proof.Machine

/-! ## ARM (Table 8.2, R129, R130) -/

theorem runArm_armed {s : State} (armed : s.run = .armed) : runArm s [] = .done s [] := by
  simp only [runArm, if_pos armed]

theorem runArm_trusted {s : State} (notArmed : s.run ≠ .armed) (trusted : s.time.sync = .locked ∧ s.link.link = .up) :
    runArm s [] = .done (({ s with run := .armed }).report (.runChange .arm s.run .armed 0)) [] := by
  simp only [runArm, if_neg notArmed, if_pos trusted]

theorem runArm_untrusted {s : State} (notArmed : s.run ≠ .armed)
    (untrusted : ¬(s.time.sync = .locked ∧ s.link.link = .up)) : runArm s [] = .refused s .wrongState := by
  simp only [runArm, if_neg notArmed, if_neg untrusted]

/-- A link that is not UP is DOWN: the condition of ARM fails exactly when the time is not LOCKED or the link is DOWN. -/
theorem not_locked_and_up_iff (sync : SyncState) (link : LinkState) :
    ¬(sync = .locked ∧ link = .up) ↔ sync ≠ .locked ∨ link = .down := by
  cases link <;> simp

/-! ## DISARM (Table 8.4, R132) -/

theorem State.disarm_armed {s : State} (armed : s.run = .armed) (c : RunCause) :
    s.disarm c = (({ s with run := .safe }).safeTransitions).report (.runChange c .armed .safe 0) := by
  simp only [State.disarm, armed]

theorem State.disarm_failsafe {s : State} (failsafe : s.run = .failsafe) (c : RunCause) :
    s.disarm c = ({ s with run := .safe }).report (.runChange c .failsafe .safe 0) := by
  simp only [State.disarm, failsafe]

theorem State.disarm_safe {s : State} (safe : s.run = .safe) (c : RunCause) : s.disarm c = s := by
  simp only [State.disarm, safe]

/-- DISARM is answered DONE in every run state (R154). -/
theorem exec_disarm {s : State} {h : Header} (x : s.Executes h) :
    exec (.disarm h) s
      = .next (((s.taken (commandFrame h .disarm [])).disarm .disarm).answered (commandFrame h .disarm []) 0x08 .done []) :=
  congrArg _ (State.receiveFrame_answered .disarm [] (by simp) x _ _ _ rfl)

/-- Settles O40: the arrival of the frame leaves run, sync and link state alone, so each case of ARM and DISARM is the
same case of the state before. -/
theorem armAndDisarmChangeTheRunState : Obligations.ArmAndDisarmChangeTheRunState := by
  unfold Obligations.ArmAndDisarmChangeTheRunState
  constructor
  case left =>
    intro s h x f t
    have answer := State.receiveFrame_answered .arm [] (by simp) x
    refine ⟨fun armed => ?_, fun notArmed trusted => ?_, fun notArmed untrusted => ?_⟩
    · exact congrArg _ (answer t .done [] (runArm_armed (s := t) armed))
    · exact congrArg _ (answer _ .done [] (runArm_trusted (s := t) notArmed trusted))
    · have refusing := (not_locked_and_up_iff s.time.sync s.link.link).2 untrusted
      exact congrArg _ (answer t .wrongState [] (runArm_untrusted (s := t) notArmed refusing))
  case right =>
    intro s h x f t out
    have disarmed (u : State) (work : t.disarm .disarm = u) :
        exec (.disarm h) s = .next (u.answered f 0x08 .done []) := work ▸ exec_disarm x
    exact ⟨fun armed => disarmed _ (State.disarm_armed (s := t) armed .disarm),
      fun failsafe => disarmed _ (State.disarm_failsafe (s := t) failsafe .disarm),
      fun safe => disarmed t (State.disarm_safe (s := t) safe .disarm)⟩

end Sys2Proof.Machine
end

section
/-! The statement about the Event List: the three cases of a report (R164, R165, R168, R173). -/

namespace Sys2Proof.Machine

/-! ## The newest record (R168 case 1) -/

theorem Report.matchesRecord_iff (r : Report) (e : EventRecord) :
    r.matchesRecord e = true
      ↔ r.kind.coalesces = true ∧ e.fetched = false ∧ e.kind = r.kind ∧ e.reason = r.reason := by
  simp [Report.matchesRecord, and_assoc]

theorem raiseNewest_of_mem_getLast? {es : List EventRecord} {e : EventRecord} (newest : e ∈ es.getLast?) :
    raiseNewest es = es.dropLast ++ [{ e with count := min (e.count + 1) 65535 }] := by
  have parts : es.dropLast ++ [e] = es := List.dropLast_append_getLast? e newest
  calc raiseNewest es = raiseNewest (es.dropLast ++ [e]) := by rw [parts]
    _ = _ := raiseNewest_append _ e

/-! ## The three cases (R168) -/

section Recording

variable {l : EventList} (now : Word32) (valid : Bool) {r : Report}

/-- Case 1, whatever the list's occupancy. -/
theorem EventList.record_of_match {e : EventRecord} (newest : e ∈ l.records.getLast?)
    (same : r.matchesRecord e = true) :
    l.record now valid r
      = { l with records := l.records.dropLast ++ [{ e with count := min (e.count + 1) 65535 }] } := by
  have hit : l.records.getLast?.any r.matchesRecord = true := by
    rw [Option.mem_def.mp newest]
    exact same
  rw [EventList.record, if_pos hit, raiseNewest_of_mem_getLast? newest]

/-- Without a match the occupancy decides between cases 2 and 3. -/
theorem EventList.record_of_no_match (other : ∀ e ∈ l.records.getLast?, ¬r.matchesRecord e = true) :
    l.record now valid r
      = if l.records.length < Config.eventLimit then l.append now valid r
        else { l with overflow := min (l.overflow + 1) 65535 } := by
  have miss : ¬l.records.getLast?.any r.matchesRecord = true := by
    cases newest : l.records.getLast? with
    | none => simp
    | some e => exact other e newest
  rw [EventList.record, if_neg miss]

end Recording

/-- Settles O35: the match is tried first, and only without one does the occupancy of the list decide. -/
theorem reportsCoalesceAppendOrOverflow : Obligations.ReportsCoalesceAppendOrOverflow := by
  unfold Obligations.ReportsCoalesceAppendOrOverflow
  intro l now valid r count same
  have noMatch (other : ∀ e ∈ l.records.getLast?, ¬same e) :
      ∀ e ∈ l.records.getLast?, ¬r.matchesRecord e = true :=
    fun e newest => mt (r.matchesRecord_iff e).mp (other e newest)
  refine ⟨fun e newest matching => ?coalesce, fun other room => ?append, fun other full => ?overflow⟩
  case coalesce => exact EventList.record_of_match now valid newest ((r.matchesRecord_iff e).mpr matching)
  case append => exact (EventList.record_of_no_match now valid (noMatch other)).trans (if_pos room)
  case overflow => exact (EventList.record_of_no_match now valid (noMatch other)).trans (if_neg (Nat.not_lt.mpr full))

end Sys2Proof.Machine
end

section
/-! SUPPORT. What the work of an executed command can leave (R144, R147 to R162): one relation, so that a law of the node
is proved once for each kind of work. -/

namespace Sys2Proof.Machine

/-- What executing a command can leave once its new unit address is in effect (R58, R144). -/
inductive State.Worked (s : State) : State → Prop where
  | nothing : s.Worked s
  | entry (i : Fin 9) (address flags : Octet) (valid : addrSetValid i address flags = true)
      (unused : (flags.getLsbD 7 && s.table.heldElsewhere i address) = false) :
      s.Worked { s with table := s.table.setEntry i (s.table.entries[i].written address flags) }
  | param (p : Param) (value : Word32) (admitted : p.admits value = true) : s.Worked (s.writeParam p value)
  | armed (trusted : s.time.sync = .locked ∧ s.link.link = .up) :
      s.Worked (({ s with run := .armed } : State).report (.runChange .arm s.run .armed 0))
  | disarmed : s.Worked (s.disarm .disarm)
  | lineStatic (id : BankId) (i : Fin 8) (value : Bool) (armed : s.run = .armed) :
      s.Worked (s.withBank id (·.applyStep (oneLineStep i value .plain)))
  | lineCadence (id : BankId) (i : Fin 8) (period onTime : Word16) (armed : s.run = .armed)
      (good : 2 ≤ period.toNat ∧ 1 ≤ onTime.toNat ∧ onTime.toNat < period.toNat) :
      s.Worked (s.withBank id (·.startCadence i period.toNat onTime.toNat))
  | cancelled (tag : Word16) : s.Worked (s.cancelTag tag)
  | flushed (set : Octet) : s.Worked (s.flushBanks set)
  | fetched (n : Nat) : s.Worked { s with events := s.events.fetch n }
  | acknowledged (q : Word16) (accepted : s.events.accepts q = true) :
      s.Worked { s with events := s.events.acknowledge q s.time.networkTime s.time.timeValid }
  | softReset : s.Worked s.softReset

/-- The state that executing a command leaves, its new unit address in effect. -/
def Executed.outcome (e : Executed) : State := e.state.applyUnit e.newUnit

variable (s : State)

@[simp] theorem Executed.outcome_done (data : List Octet) : (Executed.done s data).outcome = s := rfl

@[simp] theorem Executed.outcome_refused (r : CommandResult) : (Executed.refused s r).outcome = s := rfl

/-- The unit address is never disabled by an ADDR-SET that passes its checks. -/
theorem addrSetValid_zero {address flags : Octet} (valid : addrSetValid 0 address flags = true) :
    flags.getLsbD 7 = true := by
  cases enabled : flags.getLsbD 7 <;> simp_all [addrSetValid]

/-- Entry 0 written with its old address, and then with the new one, is entry 0 written whole. -/
theorem State.applyUnit_written (address flags : Octet) (enabled : flags.getLsbD 7 = true) :
    let old := s.table.entries[(0 : Fin 9)]
    let new := old.written address flags
    ({ s with table := s.table.setEntry 0 { new with address := old.address } } : State).applyUnit new.address
      = { s with table := s.table.setEntry 0 new } := by
  intro old new
  have written : new.address = some address := by simp [new, AddrEntry.written, enabled]
  simp only [State.applyUnit, written, AddressTable.setEntry]
  simp [← written]

theorem runAddrSet_worked (params : List Octet) : s.Worked (runAddrSet s params).outcome := by
  unfold runAddrSet
  split
  next index address flags =>
    split
    · exact .nothing
    next i _ =>
      simp only []
      split_ifs with invalid inUse unit
      · exact .nothing
      · exact .nothing
      · subst unit
        have valid : addrSetValid 0 address flags = true := by simpa using invalid
        have work : s.Worked _ := .entry 0 address flags valid (by simpa using inUse)
        rw [← s.applyUnit_written address flags (addrSetValid_zero valid)] at work
        exact work
      · exact .entry i address flags (by simpa using invalid) (by simpa using inUse)
  all_goals exact .nothing

theorem runConfigSet_worked (params : List Octet) : s.Worked (runConfigSet s params).outcome := by
  unfold runConfigSet
  split
  · simp only []
    split
    · exact .nothing
    · split_ifs with admitted
      · exact .param _ _ admitted
      · exact .nothing
  all_goals exact .nothing

theorem runArm_worked (params : List Octet) : s.Worked (runArm s params).outcome := by
  unfold runArm
  split
  · split_ifs with _ trusted
    · exact .nothing
    · exact .armed trusted
    · exact .nothing
  · exact .nothing

/-- A LINE-SET that passed its value checks works on the bank in ARMED only. -/
theorem lineSetBank_worked (id : BankId) (f : Bank → Bank) (work : s.run = .armed → s.Worked (s.withBank id f)) :
    s.Worked (lineSetBank s id f).outcome := by
  unfold lineSetBank
  split_ifs with armed
  · exact work armed
  · exact .nothing

theorem runLineSet_worked (params : List Octet) : s.Worked (runLineSet s params).outcome := by
  unfold runLineSet
  split
  · dsimp only
    split
    · split
      · exact .nothing
      · split
        · exact lineSetBank_worked s _ _ (.lineStatic _ _ _)
        · exact .nothing
    · split
      · split
        · exact .nothing
        · split
          next good => exact lineSetBank_worked s _ _ fun armed => .lineCadence _ _ _ _ armed good
          next => exact .nothing
      · exact .nothing
  all_goals exact .nothing

theorem runEventAck_worked (params : List Octet) : s.Worked (runEventAck s params).outcome := by
  unfold runEventAck
  split
  · simp only []
    split_ifs with accepted
    · exact .acknowledged _ accepted
    · exact .nothing
  all_goals exact .nothing

theorem runDisarm_worked (params : List Octet) : s.Worked (runDisarm s params).outcome := by
  unfold runDisarm
  split
  · exact .disarmed
  · exact .nothing

theorem runCancel_worked (params : List Octet) : s.Worked (runCancel s params).outcome := by
  unfold runCancel
  split
  · exact .cancelled _
  all_goals exact .nothing

theorem runFlush_worked (params : List Octet) : s.Worked (runFlush s params).outcome := by
  unfold runFlush
  split
  · split
    · exact .flushed _
    · exact .nothing
  all_goals exact .nothing

theorem runEventFetch_worked (params : List Octet) : s.Worked (runEventFetch s params).outcome := by
  unfold runEventFetch
  split
  · split
    · exact .fetched _
    · exact .nothing
  all_goals exact .nothing

theorem runResetSoft_worked (params : List Octet) : s.Worked (runResetSoft s params).outcome := by
  unfold runResetSoft
  split
  · exact .softReset
  · exact .nothing

/-- A command that only reports leaves nothing behind. -/
theorem Executed.worked_of_reads {e : Executed} (reads : e.state = s ∧ e.newUnit = none) : s.Worked e.outcome := by
  obtain ⟨state, unit⟩ := reads
  rw [Executed.outcome, state, unit]
  exact .nothing

theorem runIdent_reads (params : List Octet) : (runIdent s params).state = s ∧ (runIdent s params).newUnit = none := by
  unfold runIdent
  split <;> exact ⟨rfl, rfl⟩

theorem runStatus_reads (params : List Octet) : (runStatus s params).state = s ∧ (runStatus s params).newUnit = none := by
  unfold runStatus
  split
  · split_ifs <;> exact ⟨rfl, rfl⟩
  all_goals exact ⟨rfl, rfl⟩

theorem runAddrGet_reads (params : List Octet) :
    (runAddrGet s params).state = s ∧ (runAddrGet s params).newUnit = none := by
  unfold runAddrGet
  split
  · split <;> exact ⟨rfl, rfl⟩
  all_goals exact ⟨rfl, rfl⟩

theorem runConfigGet_reads (params : List Octet) :
    (runConfigGet s params).state = s ∧ (runConfigGet s params).newUnit = none := by
  unfold runConfigGet
  split
  · split <;> exact ⟨rfl, rfl⟩
  all_goals exact ⟨rfl, rfl⟩

theorem runQueuePeek_reads (params : List Octet) :
    (runQueuePeek s params).state = s ∧ (runQueuePeek s params).newUnit = none := by
  unfold runQueuePeek
  split
  · split_ifs <;> exact ⟨rfl, rfl⟩
  all_goals exact ⟨rfl, rfl⟩

theorem runResetFull_reads (params : List Octet) :
    (runResetFull s params).state = s ∧ (runResetFull s params).newUnit = none := by
  unfold runResetFull
  split <;> exact ⟨rfl, rfl⟩

/-- The work of each of the sixteen commands. -/
theorem runCommand_worked (c : CommandCode) (params : List Octet) : s.Worked (runCommand c s params).outcome := by
  cases c with
  | ident => exact Executed.worked_of_reads s (runIdent_reads s params)
  | status => exact Executed.worked_of_reads s (runStatus_reads s params)
  | addrGet => exact Executed.worked_of_reads s (runAddrGet_reads s params)
  | addrSet => exact runAddrSet_worked s params
  | configGet => exact Executed.worked_of_reads s (runConfigGet_reads s params)
  | configSet => exact runConfigSet_worked s params
  | arm => exact runArm_worked s params
  | disarm => exact runDisarm_worked s params
  | lineSet => exact runLineSet_worked s params
  | cancel => exact runCancel_worked s params
  | flush => exact runFlush_worked s params
  | queuePeek => exact Executed.worked_of_reads s (runQueuePeek_reads s params)
  | eventFetch => exact runEventFetch_worked s params
  | eventAck => exact runEventAck_worked s params
  | resetSoft => exact runResetSoft_worked s params
  | resetFull => exact Executed.worked_of_reads s (runResetFull_reads s params)

theorem executePayload_worked (payload : List Octet) : s.Worked (executePayload s payload).outcome := by
  unfold executePayload
  split
  · exact .nothing
  · split
    · exact .nothing
    · exact runCommand_worked s _ _

end Sys2Proof.Machine
end

section
/-! SUPPORT. Laws of the blocks that buffers and symbols only carry work to: tables, time, steps, banks, run state and
events. Such a law needs a proof for each operation of those blocks, and the way there is walked once. -/

namespace Sys2Proof.Machine

/-- The part of the state that such a law reads; buffers, receiver runs, counters and Downstream-Out are not in it. -/
structure Control where
  table : AddressTable
  time : Timebase
  steps : StepQueue
  out : OutputUnit
  run : RunState
  events : EventList
  link : LinkState
  linkTimeout : Nat
  pending : List Instr

def State.control (s : State) : Control where
  table := s.table
  time := s.time
  steps := s.steps
  out := s.out
  run := s.run
  events := s.events
  link := s.link.link
  linkTimeout := s.link.linkTimeout
  pending := s.pending

/-- A new unit address is written into the control part alone. -/
theorem State.control_applyUnit {s t : State} (unit : Option Octet) (same : t.control = s.control) :
    (t.applyUnit unit).control = (s.applyUnit unit).control := by
  have table : t.table = s.table := congrArg Control.table same
  cases unit with
  | none => exact same
  | some a =>
    rw [State.applyUnit, State.applyUnit, table]
    exact congrArg (fun c : Control =>
      { c with table := s.table.setEntry 0 { s.table.entries[0] with address := some a } }) same

/-- A property of the control part that each operation of the blocks keeps, the counting of the timers at a tick left out. -/
structure ControlKept (P : State → Prop) : Prop where
  congr : ∀ {s t : State}, P s → t.control = s.control → P t
  fell : ∀ s : State, P s → P s.resetnFalls
  rose : ∀ (s : State) (straps : BitVec 6), P s → P (s.resetnRises straps)
  restarted : ∀ (s : State) (straps : BitVec 6), P s → P (s.fullReset straps)
  reported : ∀ (s : State) (r : Report), r.count = 1 → P s → P (s.report r)
  linkedUp : ∀ s : State, P s → P { s with link.link := .up }
  marked : ∀ (s : State) (m : Word32) (e h : Octet), P s → P (s.takeMark m e h)
  sequenced : ∀ (s : State) (i : Fin 9) (q : Word16), s.table.entries[i].address ≠ none → P s →
    P { s with table := s.table.setEntry i { s.table.entries[i] with lastSeq := some q } }
  offered : ∀ (s : State) (st : Step), st.pulse ≠ some 0 → P s → P (s.offerStep st)
  disarmed : ∀ s : State, P s → P (s.disarm .broadcastDisarm)
  worked : ∀ s t : State, s.Worked t → P s → P t
  linkLost : ∀ s : State, P s → P s.expireLinkTimer
  markLost : ∀ s : State, P s → P s.expireMarkTimer
  holdoverLost : ∀ s : State, P s → P s.expireHoldoverTimer
  fellDue : ∀ s : State, P s → P s.takeDue
  transitioned : ∀ (s : State) (id : BankId), P s → P (s.takeTransition id)
  reverted : ∀ (s : State) (id : BankId) (i : Fin 8), P s → P (s.takePulse id i)
  edged : ∀ (s : State) (id : BankId) (i : Fin 8), P s → P (s.takeCadenceEdge id i)

/-- Such a property that the counting of the timers keeps as well. -/
structure ControlInvariant (P : State → Prop) : Prop extends ControlKept P where
  advanced : ∀ s : State, P s → P s.advance

/-! ## Schedules (R86) -/

/-- No record gives a step with a pulse of width 0. -/
theorem readRecord_pulse {source : Fin 9} {octets rest : List Octet} {st : Step}
    (h : readRecord source octets = some (st, rest)) : st.pulse ≠ some 0 := by
  have width (w : Word16) : pulseWidth w ≠ some 0 := by
    unfold pulseWidth
    split
    · simp
    next notZero => simpa using notZero
  unfold readRecord at h
  split at h
  · split at h
    · cases h
    · dsimp only at h
      split at h
      · cases h
      · split at h
        · split at h
          · cases h; exact width _
          · cases h
        · cases h; simp
  · cases h

theorem readRecords_pulse {source : Fin 9} {n : Nat} {octets : List Octet} {sts : List Step}
    (h : readRecords source n octets = some sts) : ∀ st ∈ sts, st.pulse ≠ some 0 := by
  induction n generalizing octets sts with
  | zero =>
    cases octets with
    | nil => cases h; simp
    | cons o os => cases h
  | succ n ih =>
    unfold readRecords at h
    split at h
    · cases h
    next st rest first =>
      obtain ⟨sts', others, rfl⟩ := Option.map_eq_some_iff.1 h
      simpa using ⟨readRecord_pulse first, ih others⟩

theorem readSchedule_pulse {source : Fin 9} {payload : List Octet} {sts : List Step}
    (h : readSchedule source payload = some sts) : ∀ st ∈ sts, st.pulse ≠ some 0 := by
  unfold readSchedule at h
  split at h
  · cases h
  · split_ifs at h
    exact readRecords_pulse h

/-- The entry that an address matches holds it. -/
theorem AddressTable.address_of_matching {t : AddressTable} {d : Octet} {i : Fin 9} (h : t.matching d = some i) :
    t.entries[i].address = some d := by
  simpa using List.find?_some h

/-! ## Commands (log entry 11) -/

/-- What resets, ticks, expiries, symbols and the transmitter's own progress keep, every command keeps. -/
theorem exec_keeps_of_tick {P : State → Prop} {c : Instr} {s t : State}
    (fell : ∀ s : State, P s → P s.resetnFalls) (rose : ∀ (s : State) (straps : BitVec 6), P s → P (s.resetnRises straps))
    (ticked : ∀ s : State, P s → P s.tick) (taken : ∀ (s : State) (e : Expiry), P s → P (s.takeExpiry e))
    (left : ∀ s : State, P s → P s.leaveBypass) (received : ∀ (s : State) (sym : Symbol), P s → P (s.receive sym))
    (idled : ∀ s : State, P s → P s.sendIdle)
    (completed : ∀ (s : State) (straps : BitVec 6), P s → P (s.completeTransmission straps))
    (h : P s) (run : exec c s = .next t) : P t := by
  have expiry (e : Expiry) (command : exec c s = exec e.command s) : P t := by
    rw [exec_expiry_command e s] at command
    cases command.symm.trans run
    exact taken s e h
  cases c with
  | resetnFall => cases run; exact fell s h
  | resetnRise straps =>
    cases run
    split
    · exact h
    · exact rose s straps h
  | tickEvent => cases run; exact ticked s h
  | startUpCompletion => exact expiry .startUp rfl
  | lossOfActivity => exact expiry .silence rfl
  | linkTimerExpiry => exact expiry .link rfl
  | markTimerExpiry => exact expiry .mark rfl
  | holdoverTimerExpiry => exact expiry .holdover rfl
  | dueExpiry => exact expiry .due rfl
  | deadTimeExpiry id => exact expiry (.deadTime id) rfl
  | pulseExpiry id i => exact expiry (.pulse id i) rfl
  | cadenceEdge id i => exact expiry (.cadence id i) rfl
  | leaveBypass => cases run; exact left s h
  | transmitCompletion straps => cases run; exact completed s straps h
  | idleSymbolSent => cases run; exact idled s h
  | idle | openSymbol | dataOctet | abort | invalidSymbol | closeSymbol => cases run; exact received s _ h
  | _ => cases run; exact State.receiveFrame_keeps received _ s h

namespace ControlKept

variable {P : State → Prop} (inv : ControlKept P) {s : State}
include inv

/-! ## Frames (R21 to R28) -/

theorem joinRepeat (b : Buffer) (h : P s) : P (s.joinRepeat b) :=
  inv.congr h (by simp [State.control])

theorem joinInsert (b : Buffer) (h : P s) : P (s.joinInsert b) :=
  inv.congr h (by simp [State.control])

theorem release (h : P s) : P s.release := inv.congr h (by simp [State.control])

theorem repeatFrame (b : Buffer) (h : P s) : P (s.repeatFrame b) :=
  inv.congr h (by simp [State.control])

theorem countConsumed (h : P s) : P s.countConsumed := inv.congr h (by simp [State.control])

theorem countFiltered (h : P s) : P s.countFiltered := inv.congr h (by simp [State.control])

theorem takeMarkFrame (f : Frame) (h : P s) : P (s.takeMarkFrame f) := by
  unfold State.takeMarkFrame
  split
  · exact inv.marked _ _ _ _ h
  · exact h

theorem offerMark (e : AddrEntry) (f : Frame) (h : P s) : P (s.offerMark e f) := by
  unfold State.offerMark
  split
  · exact inv.takeMarkFrame f (inv.countConsumed h)
  · exact inv.countFiltered h

theorem offerSteps (sts : List Step) (wide : ∀ st ∈ sts, st.pulse ≠ some 0) (h : P s) :
    P (sts.foldl State.offerStep s) := by
  induction sts generalizing s with
  | nil => exact h
  | cons st sts ih =>
    obtain ⟨first, others⟩ := List.forall_mem_cons.1 wide
    exact ih others (inv.offered s st first h)

theorem takeSchedule (i : Fin 9) (f : Frame) (enabled : s.table.entries[i].address ≠ none) (h : P s) :
    P (s.takeSchedule i f) := by
  unfold State.takeSchedule State.offerSchedule
  dsimp only
  split
  · have sequenced := inv.sequenced s i f.seq enabled h
    split
    · exact inv.reported _ _ rfl sequenced
    next sts read => exact inv.offerSteps sts (readSchedule_pulse read) sequenced
  · exact inv.congr h rfl

theorem offerScheduleFrame (i : Fin 9) (f : Frame) (enabled : s.table.entries[i].address ≠ none) (h : P s) :
    P (s.offerScheduleFrame i f) := by
  unfold State.offerScheduleFrame
  split
  · exact inv.takeSchedule (s := s.countConsumed) i f enabled (inv.countConsumed h)
  · exact inv.countFiltered h

theorem dropCommand (f : Frame) (r : DropReason) (h : P s) : P (s.dropCommand f r) :=
  inv.reported _ _ rfl (inv.release h)

theorem executeCommand (b : Buffer) (h : P s) : P (s.executeCommand b) := by
  have worked := inv.worked _ _ (executePayload_worked s b.frame.payload) h
  exact inv.congr worked (State.control_applyUnit _ (by simp [State.control]))

theorem takeCommand (b : Buffer) (h : P s) : P (s.takeCommand b) := by
  unfold State.takeCommand
  split
  · exact inv.dropCommand _ _ h
  · split
    · split
      · exact inv.joinInsert _ h
      · exact inv.dropCommand _ _ h
    · split
      · exact inv.executeCommand b h
      · exact inv.dropCommand _ _ h

theorem classifyUnit (b : Buffer) (enabled : s.table.entries[(0 : Fin 9)].address ≠ none) (h : P s) :
    P (s.classifyUnit b) := by
  unfold State.classifyUnit
  split
  · exact inv.release (inv.offerMark _ _ h)
  · exact inv.release (inv.offerScheduleFrame 0 _ enabled h)
  · exact inv.takeCommand b (inv.countConsumed h)
  all_goals exact inv.reported _ _ rfl (inv.release h)

theorem offerManyCommand (i : Fin 9) (f : Frame) (h : P s) : P (s.offerManyCommand i f) := by
  unfold State.offerManyCommand
  split_ifs
  · exact inv.disarmed _ (inv.countConsumed h)
  · exact inv.reported _ _ rfl h
  · exact inv.reported _ _ rfl h

theorem classifyMany (i : Fin 9) (b : Buffer) (enabled : s.table.entries[i].address ≠ none) (h : P s) :
    P (s.classifyMany i b) := by
  unfold State.classifyMany
  split
  · exact inv.repeatFrame b (inv.offerMark _ _ h)
  · exact inv.repeatFrame b (inv.offerScheduleFrame i _ enabled h)
  · exact inv.repeatFrame b (inv.offerManyCommand i _ h)
  all_goals exact inv.repeatFrame b h

theorem strip (f : Frame) (h : P s) : P (s.strip f) :=
  inv.reported _ _ rfl (inv.congr h rfl)

theorem classify (b : Buffer) (h : P s) : P (s.classify b) := by
  unfold State.classify
  split_ifs
  · exact inv.strip _ h
  · exact inv.repeatFrame b h
  · split
    · exact inv.repeatFrame b h
    next i matched =>
      have enabled : s.table.entries[i].address ≠ none := by
        rw [AddressTable.address_of_matching matched]
        simp
      split_ifs with unit
      · subst unit; exact inv.classifyUnit b enabled h
      · exact inv.classifyMany i b enabled h

/-! ## Symbols (R2 to R16) -/

theorem dropAssembly (r : FrameFault) (a : Assembly) (h : P s) : P (s.dropAssembly r a) :=
  inv.reported _ _ rfl (inv.congr h rfl)

theorem endFrame (octets : List Octet) (h : P s) : P (s.endFrame octets) := by
  rcases s.endFrame_cases octets with length | check | ⟨b, _, _, _, good⟩
  · rw [length]; exact inv.dropAssembly _ _ h
  · rw [check]; exact inv.dropAssembly _ _ h
  · rw [good]; exact inv.classify b (inv.congr h rfl)

theorem claim (h : P s) : P s.claim := by
  unfold State.claim
  split
  · exact inv.congr h rfl
  · exact inv.reported _ _ rfl (inv.congr h rfl)

theorem assemble (sym : Symbol) (h : P s) : P (s.assemble sym) := by
  unfold State.assemble
  split
  case h_1 => exact inv.reported _ _ rfl (inv.congr h rfl)
  case h_2 | h_3 => exact inv.claim h
  case h_4 =>
    split
    · exact inv.congr h rfl
    · exact inv.dropAssembly _ _ h
  case h_5 => exact inv.endFrame _ h
  case h_6 | h_8 => exact inv.congr h rfl
  case h_7 | h_9 => exact inv.dropAssembly _ _ h
  all_goals exact h

theorem enterInSync (h : P s) : P s.enterInSync := by
  unfold State.enterInSync
  dsimp only
  split
  · exact inv.congr h rfl
  · exact inv.reported _ _ rfl (inv.congr (inv.linkedUp s h) rfl)

theorem hunt (sym : Symbol) (h : P s) : P (s.hunt sym) := by
  rcases s.hunt_cases sym with ⟨_, _, counted⟩ | ⟨_, _, entered⟩ | ⟨_, cleared⟩
  · rw [counted]; exact inv.congr h rfl
  · rw [entered]; exact inv.enterInSync h
  · rw [cleared]; exact inv.congr h rfl

theorem assembleUnlessBypass (sym : Symbol) (h : P s) : P (s.assembleUnlessBypass sym) := by
  unfold State.assembleUnlessBypass
  split
  · exact h
  · exact inv.assemble sym h

theorem countInvalid (h : P s) : P s.countInvalid := by
  refine inv.congr h ?_
  unfold State.countInvalid
  split <;> rfl

theorem trackBracket (sym : Symbol) (h : P s) : P (s.trackBracket sym) := by
  refine inv.congr h ?_
  unfold State.trackBracket
  split <;> rfl

theorem inSyncSymbol (sym : Symbol) (h : P s) : P (s.inSyncSymbol sym) := by
  unfold State.inSyncSymbol
  split
  · exact inv.countInvalid (inv.assembleUnlessBypass sym h)
  · exact inv.assembleUnlessBypass sym (inv.trackBracket sym (inv.congr h rfl))

theorem receive (sym : Symbol) (h : P s) : P (s.receive sym) := by
  unfold State.receive
  split
  · have heard : P ((s.leaveBypass.heard).mirror sym) := inv.congr h (by simp [State.control])
    unfold State.receiverTakes
    split
    · exact inv.hunt sym (inv.congr heard rfl)
    · exact inv.hunt sym heard
    · exact inv.inSyncSymbol sym heard
  · exact inv.congr h (by simp [State.control])

/-! ## Expiries, the transmitter, every command -/

theorem loseActivity (h : P s) : P s.loseActivity := by
  unfold State.loseActivity
  dsimp only
  split
  · split
    · exact h
    · exact inv.congr h rfl
    · split
      · exact inv.congr (inv.dropAssembly .link .outside h) rfl
      · exact inv.congr h rfl
      · exact inv.congr h rfl
  · exact h

theorem takeExpiry (e : Expiry) (h : P s) : P (s.takeExpiry e) := by
  cases e with
  | startUp => exact inv.congr h (by simp [State.control, State.takeExpiry])
  | silence => exact inv.loseActivity h
  | link => exact inv.linkLost s h
  | mark => exact inv.markLost s h
  | holdover => exact inv.holdoverLost s h
  | due => exact inv.fellDue s h
  | deadTime id => exact inv.transitioned s id h
  | pulse id i => exact inv.reverted s id i h
  | cadence id i => exact inv.edged s id i h

theorem completeTransmission (straps : BitVec 6) (h : P s) : P (s.completeTransmission straps) := by
  unfold State.completeTransmission
  split
  · exact h
  · exact h
  next b tag _ =>
    have finished : P (s.finishFrame b tag) := inv.congr h (by simp [State.control])
    dsimp only
    split
    · exact inv.restarted _ straps finished
    · exact inv.congr finished (by simp [State.control])

theorem leaveBypass (h : P s) : P s.leaveBypass := inv.congr h (by simp [State.control])

/-- Settling keeps such a law. -/
theorem settle (h : P s) : P s.settle :=
  inv.leaveBypass (State.settleUpTo_keeps (fun _ _ h => inv.congr h rfl) (fun _ e => inv.takeExpiry e) _ s h)

/-- Every command keeps such a law that a tick keeps. -/
theorem exec (ticked : ∀ s : State, P s → P s.tick) {c : Instr} {t : State} (h : P s) (run : exec c s = .next t) :
    P t := by
  refine exec_keeps_of_tick inv.fell inv.rose ticked ?_ ?_ ?_ ?_ ?_ h run
  · exact fun s e => inv.takeExpiry e
  · exact fun _ => inv.leaveBypass
  · exact fun s sym => inv.receive sym
  · exact fun _ h => inv.congr h (by simp [State.control])
  · exact fun s straps => inv.completeTransmission straps

end ControlKept

namespace ControlInvariant

variable {P : State → Prop} (inv : ControlInvariant P) {s : State}
include inv

theorem tick (h : P s) : P s.tick := by
  unfold State.tick
  split
  · exact inv.advanced _ (inv.toControlKept.settle h)
  · exact h

/-- Every command keeps such a law. -/
theorem exec {c : Instr} {t : State} (h : P s) (run : exec c s = .next t) : P t :=
  inv.toControlKept.exec (fun _ => inv.tick) h run

/-- So does every step, when the law does not read the waiting commands. -/
theorem step {t : State} (queue : ∀ (s : State) (q : List Instr), P s → P { s with pending := q }) (h : P s)
    (run : step s = .next t) : P t :=
  step_keeps queue (fun _ _ _ => inv.exec) s t h run

end ControlInvariant

end Sys2Proof.Machine
end

section
/-! The law of the Event List (R164, R165): recording, fetching and acknowledging keep it, and nothing else touches it. -/

namespace Sys2Proof.Machine

/-! ## The list (R164, R165) -/

theorem EventList.reset_law : EventList.reset.Law := by decide

variable {l : EventList} (now : Word32) (valid : Bool)

/-- A record appended takes the next sequence, and all others lie one further back. -/
theorem EventList.append_law (h : l.Law) (room : l.records.length < Config.eventLimit) (r : Report)
    (counted : 1 ≤ r.count ∧ r.count ≤ 65535) : (l.append now valid r).Law := by
  obtain ⟨_, consecutive, fetched, counts, overflow⟩ := h
  have unfetched : (r.toRecord l.nextSeq now valid).fetched = false := rfl
  refine ⟨?_, ?_, ?_, ?_, overflow⟩
  · simpa using room
  · rintro ⟨i, inside⟩
    simp only [EventList.append_records, List.length_append, List.length_singleton] at inside
    simp only [EventList.append_records, EventList.append_nextSeq, List.length_append, List.length_singleton,
      Fin.getElem_fin]
    rcases Nat.lt_or_ge i l.records.length with older | newest
    · have place : l.records.length + 1 - i = l.records.length - i + 1 := by omega
      have next : BitVec.ofNat 16 (l.records.length - i + 1) = BitVec.ofNat 16 (l.records.length - i) + 1 := BitVec.ofNat_add _ 1
      rw [List.getElem_append_left older, place, next, ← add_assoc]
      exact congrArg (· + 1) (consecutive ⟨i, older⟩)
    · obtain rfl : i = l.records.length := by omega
      simp [Report.toRecord]
  · simp only [EventList.append_records, List.pairwise_append, List.mem_singleton]
    refine ⟨fetched, List.pairwise_singleton _ _, ?_⟩
    rintro a _ b rfl
    simp [unfetched]
  · simp only [EventList.append_records, List.forall_mem_append, List.forall_mem_singleton]
    exact ⟨counts, counted⟩

/-- Raising the newest record's count, within its range, keeps the law. -/
theorem EventList.raiseNewest_law (h : l.Law) : ({ l with records := raiseNewest l.records } : EventList).Law := by
  obtain ⟨size, consecutive, fetched, counts, overflow⟩ := h
  rcases List.eq_nil_or_concat' l.records with none | ⟨older, e, parts⟩
  · have same : ({ l with records := raiseNewest l.records } : EventList) = l := by rw [none, raiseNewest, ← none]
    rw [same]
    exact ⟨size, consecutive, fetched, counts, overflow⟩
  · rw [parts] at size fetched counts
    rw [parts, raiseNewest_append]
    refine ⟨by simpa using size, ?_, ?_, ?_, overflow⟩
    · rintro ⟨i, inside⟩
      have was := consecutive ⟨i, by simpa [parts] using inside⟩
      simp only [parts, Fin.getElem_fin, List.getElem_append] at was ⊢
      split_ifs at was ⊢ <;> simpa using was
    · simpa [List.pairwise_append] using fetched
    · simp only [List.forall_mem_append, List.forall_mem_singleton] at counts ⊢
      obtain ⟨others, least, _⟩ := counts
      exact ⟨others, by omega, by omega⟩

theorem EventList.record_law (h : l.Law) (r : Report) (single : r.count = 1) : (l.record now valid r).Law := by
  unfold EventList.record
  split_ifs with _ room
  · exact raiseNewest_law h
  · exact append_law now valid h room r (by omega)
  · obtain ⟨size, consecutive, fetched, counts, _⟩ := h
    exact ⟨size, consecutive, fetched, counts, Nat.min_le_right _ _⟩

/-- The fetched records are the oldest before and after a fetch. -/
theorem EventList.fetch_law (h : l.Law) (n : Nat) : (l.fetch n).Law := by
  obtain ⟨size, consecutive, fetched, counts, overflow⟩ := h
  have parts : l.records.take n ++ l.records.drop n = l.records := List.take_append_drop n _
  rw [← parts, List.pairwise_append] at fetched
  rw [← parts, List.forall_mem_append] at counts
  obtain ⟨_, behind, _⟩ := fetched
  obtain ⟨countsBefore, countsBehind⟩ := counts
  refine ⟨by simpa using size, ?_, ?_, ?_, overflow⟩
  · rintro ⟨i, inside⟩
    have held : i < l.records.length := by simpa using inside
    have same : (l.fetch n).records[i].sequence = l.records[i].sequence := by
      simp only [EventList.fetch, List.getElem_append]
      split
      · simp
      · simp only [List.getElem_drop]
        congr 2
        simp at *
        omega
    have was := consecutive ⟨i, held⟩
    simpa [same] using was
  · simp only [EventList.fetch, List.pairwise_append]
    refine ⟨?_, behind, ?_⟩
    · exact List.pairwise_map.2 (List.pairwise_of_forall fun _ _ _ => rfl)
    · intro a before
      obtain ⟨_, _, rfl⟩ := List.mem_map.1 before
      simp
  · simp only [EventList.fetch, List.forall_mem_append, List.forall_mem_map]
    exact ⟨countsBefore, countsBehind⟩

/-- Removing the oldest records keeps the law. -/
theorem EventList.drop_law (h : l.Law) (n : Nat) : ({ l with records := l.records.drop n } : EventList).Law := by
  obtain ⟨size, consecutive, fetched, counts, overflow⟩ := h
  refine ⟨?_, ?_, fetched.sublist (List.drop_sublist _ _), fun e he => counts e (List.mem_of_mem_drop he), overflow⟩
  · simp only [List.length_drop]; omega
  · rintro ⟨i, inside⟩
    simp only [List.length_drop] at inside
    have was := consecutive ⟨n + i, by omega⟩
    have place : l.records.length - n - i = l.records.length - (n + i) := by omega
    simpa [place] using was

theorem EventList.acknowledge_law (h : l.Law) (q : Word16) (accepted : l.accepts q = true) :
    (l.acknowledge q now valid).Law := by
  have within := l.removedBy_le q accepted
  have some : 1 ≤ l.removedBy q := Nat.le_add_left 1 _
  have dropped := drop_law h (l.removedBy q)
  obtain ⟨size, _, _, _, overflow⟩ := h
  unfold EventList.acknowledge
  dsimp only
  split_ifs with lost
  · exact dropped
  · have room : (l.records.drop (l.removedBy q)).length < Config.eventLimit := by
      simp only [List.length_drop]
      omega
    obtain ⟨size, consecutive, fetched, counts, _⟩ := append_law now valid dropped room (.overflow l.overflow)
      ⟨Nat.one_le_iff_ne_zero.2 lost, overflow⟩
    exact ⟨size, consecutive, fetched, counts, Nat.zero_le _⟩

/-! ## The blocks that report -/

variable {s : State}

theorem State.report_eventsLaw (h : s.events.Law) (r : Report) (single : r.count = 1) : (s.report r).events.Law :=
  EventList.record_law _ _ h r single

theorem State.countFlushed_eventsLaw (c : FlushCause) (n : Nat) (h : s.events.Law) : (s.countFlushed c n).events.Law := by
  unfold State.countFlushed
  dsimp only
  split
  · exact h
  · exact State.report_eventsLaw (s := { s with steps.counters.flushed := _ }) h _ rfl

theorem State.flushAll_eventsLaw (c : FlushCause) (h : s.events.Law) : (s.flushAll c).events.Law :=
  State.countFlushed_eventsLaw (s := { s with steps.held := [] }) c _ h

theorem State.loseTrust_eventsLaw (c : RunCause) (h : s.events.Law) : (s.loseTrust c).events.Law := by
  unfold State.loseTrust State.enterFailsafe
  split
  · exact State.report_eventsLaw (State.flushAll_eventsLaw (s := State.safeTransitions { s with run := .failsafe }) _ h) _ rfl
  · exact h

theorem State.suppress_eventsLaw (h : s.events.Law) : s.suppress.events.Law :=
  EventList.record_law _ _ h _ rfl

theorem State.applyLate_eventsLaw (st : Step) (n : Nat) (h : s.events.Law) : (s.applyLate st n).events.Law :=
  EventList.record_law _ _ h _ rfl

theorem State.offerStep_eventsLaw (st : Step) (h : s.events.Law) : (s.offerStep st).events.Law := by
  rcases s.offerStep_cases st with ⟨_, _, rejected⟩ | ⟨_, accepted⟩
  · rw [rejected]
    exact State.report_eventsLaw h _ rfl
  · rw [accepted]
    unfold State.acceptStep
    dsimp only
    split_ifs
    · exact h
    · exact EventList.record_law _ _ h _ rfl
    · exact EventList.record_law _ _ h _ rfl

theorem State.takeDue_eventsLaw (h : s.events.Law) : s.takeDue.events.Law := by
  rcases s.takeDue_cases with idle | ⟨_, _, _, _, ⟨_, applied⟩ | ⟨_, suppressed⟩⟩
  · rwa [idle]
  · rwa [applied]
  · rw [suppressed]
    exact State.suppress_eventsLaw (s := { s with steps.held := _ }) h

theorem State.overtake_eventsLaw (st : Step) (h : s.events.Law) : (s.overtake st).events.Law := by
  rcases s.overtake_cases st with ⟨_, late⟩ | ⟨_, suppressed⟩ | dropped
  · rw [late]; exact State.applyLate_eventsLaw st _ h
  · rw [suppressed]; exact State.suppress_eventsLaw h
  · rw [dropped]; exact EventList.record_law _ _ h _ rfl

theorem State.overtakeAll_eventsLaw (sts : List Step) (h : s.events.Law) :
    (sts.foldl State.overtake s).events.Law := by
  induction sts generalizing s with
  | nil => exact h
  | cons st sts ih => exact ih (State.overtake_eventsLaw st h)

theorem State.queueTimeStep_eventsLaw (amount : Int) (h : s.events.Law) : (s.queueTimeStep amount).events.Law := by
  unfold State.queueTimeStep
  split_ifs
  · exact State.overtakeAll_eventsLaw (s := { s with steps.held := _ }) _ h
  · exact State.countFlushed_eventsLaw (s := { s with steps.held := _ }) _ _ h
  · exact h

theorem State.stepTime_eventsLaw (x : Word32) (e : Octet) (entered : SyncState) (good : Nat) (h : s.events.Law) :
    (s.stepTime x e entered good).events.Law := by
  unfold State.stepTime
  refine State.queueTimeStep_eventsLaw _ ?_
  split_ifs
  · exact h
  · exact EventList.record_law _ _ h _ rfl
  · exact EventList.record_law _ _ h _ rfl
  · exact EventList.record_law _ _ (EventList.record_law _ _ h _ rfl) _ rfl

theorem State.lockOn_eventsLaw (offset : Int) (h : s.events.Law) : (s.lockOn offset).events.Law := by
  unfold State.lockOn
  dsimp only
  split
  · exact h
  · exact EventList.record_law _ _ h _ rfl

theorem State.takeMark_eventsLaw (m : Word32) (e hops : Octet) (h : s.events.Law) :
    (s.takeMark m e hops).events.Law := by
  change (s.judgeMark _ _).events.Law
  have stepped := fun x e y g => State.stepTime_eventsLaw x e y g h
  have locked := fun o => State.lockOn_eventsLaw o h
  unfold State.judgeMark
  dsimp only
  split
  · exact stepped _ _ _ _
  · split_ifs
    · exact h
    · exact locked _
    · exact stepped _ _ _ _
  · split_ifs
    · exact stepped _ _ _ _
    · exact locked _
    · exact h
    · exact stepped _ _ _ _
  · split_ifs
    · exact locked _
    · exact stepped _ _ _ _

theorem State.disarm_eventsLaw (c : RunCause) (h : s.events.Law) : (s.disarm c).events.Law := by
  unfold State.disarm
  split
  · exact EventList.record_law _ _ h _ rfl
  · exact EventList.record_law _ _ h _ rfl
  · exact h

theorem State.softReset_eventsLaw (h : s.events.Law) : s.softReset.events.Law := by
  have flushed := State.flushAll_eventsLaw (s := State.safeTransitions { s with run := .safe }) .softReset h
  unfold State.softReset
  dsimp only
  split
  · exact State.report_eventsLaw flushed _ rfl
  · exact State.report_eventsLaw flushed _ rfl
  · exact flushed

theorem State.enterUnsynced_eventsLaw (h : s.events.Law) : s.enterUnsynced.events.Law :=
  State.loseTrust_eventsLaw _ (State.flushAll_eventsLaw _ (EventList.record_law _ _ h _ rfl))

theorem State.worked_eventsLaw {t : State} (w : s.Worked t) (h : s.events.Law) : t.events.Law := by
  cases w with
  | nothing | entry | lineStatic | lineCadence | cancelled => exact h
  | param p value => cases p <;> exact h
  | armed => exact EventList.record_law _ _ h _ rfl
  | disarmed => exact State.disarm_eventsLaw _ h
  | flushed set => exact State.countFlushed_eventsLaw (s := { s with steps.held := _ }) _ _ h
  | fetched n => exact EventList.fetch_law h n
  | acknowledged q accepted => exact EventList.acknowledge_law _ _ h q accepted
  | softReset => exact State.softReset_eventsLaw h

theorem eventsLaw_controlInvariant : ControlInvariant fun s => s.events.Law where
  congr h same := by rwa [show State.events _ = State.events _ from congrArg Control.events same]
  fell _ _ := EventList.reset_law
  rose _ _ _ := EventList.record_law _ _ EventList.reset_law _ rfl
  restarted _ _ _ := EventList.record_law _ _ EventList.reset_law _ rfl
  reported _ r single h := State.report_eventsLaw h r single
  linkedUp _ h := h
  marked _ m e hops h := State.takeMark_eventsLaw m e hops h
  sequenced _ _ _ _ h := h
  offered _ st _ h := State.offerStep_eventsLaw st h
  disarmed _ h := State.disarm_eventsLaw _ h
  worked _ _ w h := State.worked_eventsLaw w h
  linkLost s h := by
    rcases s.expireLinkTimer_cases with ⟨_, idle⟩ | ⟨_, down⟩
    · rwa [idle]
    · rw [down]
      exact State.loseTrust_eventsLaw _ (State.report_eventsLaw (s := { s with link.link := _, link.linkTimer := _ }) h _ rfl)
  markLost s h := by
    unfold State.expireMarkTimer
    split_ifs
    · split
      · exact State.enterUnsynced_eventsLaw h
      · exact EventList.record_law _ _ h _ rfl
      all_goals exact h
    · exact h
  holdoverLost s h := by
    unfold State.expireHoldoverTimer
    split_ifs
    · split
      · exact State.enterUnsynced_eventsLaw h
      all_goals exact h
    · exact h
  fellDue _ h := State.takeDue_eventsLaw h
  transitioned _ _ h := by simpa using h
  reverted _ _ _ h := by simpa using h
  edged _ _ _ h := by simpa using h
  advanced _ h := h

/-- Settles O54: every record comes by a report, and a report, a fetch and an acknowledgement keep the law. -/
theorem everyStepKeepsTheEventList : Obligations.EveryStepKeepsTheEventList := by
  unfold Obligations.EveryStepKeepsTheEventList
  exact fun _ _ => eventsLaw_controlInvariant.step fun _ _ h => h

end Sys2Proof.Machine
end

section
/-! The law of the Address Table (R47, R50, R53, R55 to R58), and the completion of every command. -/

namespace Sys2Proof.Machine

/-! ## Every command completes -/

theorem pending_controlInvariant (q : List Instr) : ControlInvariant fun s => s.pending = q where
  congr h same := (congrArg Control.pending same).trans h
  fell s h := by
    rw [State.resetnFalls, State.allReset, State.cutTransmission]
    split <;> exact h
  rose _ _ h := h
  restarted _ _ h := h
  reported _ _ _ h := h
  linkedUp _ h := h
  marked _ _ _ _ h := by simpa using h
  sequenced _ _ _ _ h := h
  offered _ _ _ h := by simpa using h
  disarmed _ h := by simpa using h
  worked _ _ w h := by
    cases w with
    | param p => cases p <;> exact h
    | flushed => simpa [State.flushBanks] using h
    | disarmed | softReset => simpa using h
    | _ => exact h
  linkLost _ h := by simpa using h
  markLost _ h := by simpa using h
  holdoverLost _ h := by simpa using h
  fellDue _ h := by simpa using h
  transitioned _ _ h := by simpa using h
  reverted _ _ _ h := by simpa using h
  edged _ _ _ h := by simpa using h
  advanced _ h := h

theorem exec_next (c : Instr) (s : State) : ∃ t : State, exec c s = .next t := by
  cases c <;> exact ⟨_, rfl⟩

/-- Settles O2: no arm of exec ends in a fault, and the waiting commands are part of what no operation touches. -/
theorem everyCommandCompletes : Obligations.EveryCommandCompletes := by
  unfold Obligations.EveryCommandCompletes
  intro s c
  obtain ⟨t, run⟩ := exec_next c s
  exact ⟨t, run, (pending_controlInvariant s.pending).exec rfl run⟩

/-! ## Writing an entry -/

theorem AddressTable.setEntry_entries (t : AddressTable) (i j : Fin 9) (e : AddrEntry) :
    (t.setEntry i e).entries[j] = if i = j then e else t.entries[j] := by
  simp only [AddressTable.setEntry, Fin.getElem_fin, Vector.getElem_set, Fin.ext_iff]

/-- An entry that fits its index and holds an address no other entry holds can be written. -/
theorem AddressTable.setEntry_law {t : AddressTable} (h : t.Law) (i : Fin 9) (e : AddrEntry)
    (unit : i = 0 → e.address ≠ none)
    (free : ∀ a ∈ e.address, ∀ j : Fin 9, j ≠ i → t.entries[j].address ≠ some a)
    (allowed : ∀ a ∈ e.address, addressAllowed i a) (fresh : e.address = none → e.lastSeq = none) :
    (t.setEntry i e).Law := by
  obtain ⟨unitHeld, distinct, classes, disabled⟩ := h
  refine ⟨?_, fun j k other a held => ?_, fun j a held => ?_, fun j none => ?_⟩
  · have first := t.setEntry_entries i 0 e
    rw [show (t.setEntry i e).entries[0] = (t.setEntry i e).entries[(0 : Fin 9)] from rfl, first]
    split
    · exact unit ‹_›
    · exact unitHeld
  · rw [t.setEntry_entries] at held ⊢
    by_cases ij : i = j <;> by_cases ik : i = k
    · exact absurd (ij.symm.trans ik) other
    · rw [if_pos ij] at held
      rw [if_neg ik]
      exact free a held k (Ne.symm ik)
    · rw [if_neg ij] at held
      rw [if_pos ik]
      exact fun same => free a same j (Ne.symm ij) held
    · rw [if_neg ij] at held
      rw [if_neg ik]
      exact distinct j k other a held
  · rw [t.setEntry_entries] at held
    split_ifs at held with ij
    · subst ij; exact allowed a held
    · exact classes j a held
  · rw [t.setEntry_entries] at none ⊢
    split_ifs at none ⊢
    · exact fresh none
    · exact disabled j none

/-- Recording a SEQ in an enabled entry. -/
theorem AddressTable.sequenced_law {t : AddressTable} (h : t.Law) (i : Fin 9) (q : Word16)
    (enabled : t.entries[i].address ≠ none) :
    (t.setEntry i { t.entries[i] with lastSeq := some q }).Law := by
  have ⟨_, distinct, classes, _⟩ := h
  exact AddressTable.setEntry_law h i _ (fun _ => enabled) (fun a held j other same => distinct j i other a same held)
    (classes i) fun none => absurd none enabled

/-! ## ADDR-SET (R55, R56) -/

/-- The value checks, as R55 states them. -/
theorem addrSetValid_iff (i : Fin 9) (address flags : Octet) :
    addrSetValid i address flags = true
      ↔ flags.getLsbD 3 = false ∧ flags.getLsbD 6 = false ∧ (i = 0 → flags.getLsbD 7 = true)
        ∧ (flags.getLsbD 7 = true → addressAllowed i address) := by
  unfold addrSetValid addressAllowed
  generalize flags.getLsbD 3 = reserved, flags.getLsbD 6 = reserved', flags.getLsbD 7 = enabled
  by_cases unit : i = 0 <;> by_cases broadcast : i = 8 <;> cases reserved <;> cases reserved' <;> cases enabled <;>
    simp_all

theorem AddressTable.heldElsewhere_iff (t : AddressTable) (i : Fin 9) (address : Octet) :
    t.heldElsewhere i address = true ↔ ∃ j : Fin 9, j ≠ i ∧ t.entries[j].address = some address := by
  simp [AddressTable.heldElsewhere]

theorem AddrEntry.written_address (old : AddrEntry) (address flags : Octet) :
    (old.written address flags).address = if flags.getLsbD 7 then some address else none := rfl

/-- An ADDR-SET that passes its checks keeps the law. -/
theorem AddressTable.written_law {t : AddressTable} (h : t.Law) (i : Fin 9) (address flags : Octet)
    (valid : addrSetValid i address flags = true) (unused : (flags.getLsbD 7 && t.heldElsewhere i address) = false) :
    (t.setEntry i (t.entries[i].written address flags)).Law := by
  have ⟨_, _, _, disabled⟩ := h
  obtain ⟨_, _, unit, allowed⟩ := (addrSetValid_iff i address flags).1 valid
  cases enabled : flags.getLsbD 7 with
  | true =>
    have nowhere : ¬∃ j : Fin 9, j ≠ i ∧ t.entries[j].address = some address := by
      rw [← t.heldElsewhere_iff i address]
      simpa [enabled] using unused
    have held : (t.entries[i].written address flags).address = some address := by
      rw [AddrEntry.written_address, enabled, if_pos rfl]
    refine AddressTable.setEntry_law h i _ ?_ ?_ ?_ ?_ <;> rw [held]
    · simp
    · rintro _ ⟨rfl⟩ j other same
      exact nowhere ⟨j, other, same⟩
    · rintro _ ⟨rfl⟩
      exact allowed enabled
    · simp
  | false =>
    have held : (t.entries[i].written address flags).address = none := by
      rw [AddrEntry.written_address, enabled, if_neg Bool.false_ne_true]
    have seq : (t.entries[i].written address flags).lastSeq = none := by
      simp only [AddrEntry.written, enabled, if_neg Bool.false_ne_true]
      split
      next kept => exact disabled i kept.symm
      next => rfl
    have notUnit : i ≠ 0 := fun zero => Bool.false_ne_true (enabled.symm.trans (unit zero))
    refine AddressTable.setEntry_law h i _ (fun zero => absurd zero notUnit) ?_ ?_ fun _ => seq <;> rw [held] <;> simp

/-! ## Resets (R48, R49) -/

/-- The address that the straps name is a unit address. -/
theorem strapAddress_allowed (straps : BitVec 6) : straps.zeroExtend 8 + 1 ≠ 0#8 ∧ straps.zeroExtend 8 + 1 ≠ 255#8 := by
  decide +revert

theorem AddressTable.sampled_law (straps : BitVec 6) : (AddressTable.sampled straps).Law := by
  obtain ⟨notZero, notBroadcast⟩ := strapAddress_allowed straps
  unfold AddressTable.sampled
  generalize straps.zeroExtend 8 + 1 = a at notZero notBroadcast
  refine ⟨by simp [AddrEntry.openReset], ?_, ?_, ?_⟩
  · simp [Fin.forall_fin_succ, AddrEntry.openReset, AddrEntry.groupReset, notBroadcast, Ne.symm notBroadcast]
  · simp [Fin.forall_fin_succ, AddrEntry.openReset, AddrEntry.groupReset]
    exact ⟨⟨notZero, notBroadcast⟩, rfl⟩
  · simp [Fin.forall_fin_succ, AddrEntry.openReset, AddrEntry.groupReset]

theorem tableLaw_controlInvariant : ControlInvariant fun s => s.table.Law where
  congr h same := by rwa [show State.table _ = State.table _ from congrArg Control.table same]
  fell _ _ := AddressTable.sampled_law _
  rose _ straps _ := AddressTable.sampled_law straps
  restarted _ straps _ := AddressTable.sampled_law straps
  reported _ _ _ h := h
  linkedUp _ h := h
  marked _ _ _ _ h := by simpa only [State.takeMark_frame] using h
  sequenced _ i q enabled h := AddressTable.sequenced_law h i q enabled
  offered _ _ _ h := by simpa only [State.offerStep_frame] using h
  disarmed _ h := by simpa only [State.disarm_frame] using h
  worked _ _ w h := by
    cases w with
    | entry i address flags valid unused => exact AddressTable.written_law h i address flags valid unused
    | param p => cases p <;> exact h
    | flushed => simpa only [State.flushBanks, State.countFlushed_frame] using h
    | disarmed => simpa only [State.disarm_frame] using h
    | softReset => simpa only [State.softReset_frame] using h
    | _ => exact h
  linkLost _ h := by simpa only [State.expireLinkTimer_frame] using h
  markLost _ h := by simpa only [State.expireMarkTimer_frame] using h
  holdoverLost _ h := by simpa only [State.expireHoldoverTimer_frame] using h
  fellDue _ h := by simpa only [State.takeDue_frame] using h
  transitioned _ _ h := by simpa only [State.takeTransition_frame] using h
  reverted _ _ _ h := by simpa only [State.takePulse_frame] using h
  edged _ _ _ h := by simpa only [State.takeCadenceEdge_frame] using h
  advanced _ h := h

/-- Settles O57: only a reset, a recorded SEQ and an ADDR-SET that passed its checks write the table. -/
theorem everyStepKeepsTheAddressTable : Obligations.EveryStepKeepsTheAddressTable := by
  unfold Obligations.EveryStepKeepsTheAddressTable
  exact fun _ _ => tableLaw_controlInvariant.step fun _ _ h => h

end Sys2Proof.Machine
end

section
/-! SUPPORT. What the operations can do to the held steps and the two limits of the Step Queue, and what a time mark does to
the Timebase. -/

namespace Sys2Proof.Machine

/-! ## Steps only leave the queue (R93, R96 to R99, R101) -/

/-- Steps have left a queue, the others keep their order, and the two parameters stand. -/
def StepQueue.ShrinksTo (q q' : StepQueue) : Prop :=
  q'.held.Sublist q.held ∧ q'.acceptWindow = q.acceptWindow ∧ q'.lateLimit = q.lateLimit

theorem StepQueue.ShrinksTo.refl (q : StepQueue) : q.ShrinksTo q := ⟨.refl _, rfl, rfl⟩

theorem StepQueue.ShrinksTo.trans {q q' q'' : StepQueue} (h : q.ShrinksTo q') (h' : q'.ShrinksTo q'') :
    q.ShrinksTo q'' := by
  obtain ⟨left, window, limit⟩ := h
  obtain ⟨left', window', limit'⟩ := h'
  exact ⟨left'.trans left, window'.trans window, limit'.trans limit⟩

variable (s : State)

theorem State.countFlushed_shrinks (kept : List Step) (left : kept.Sublist s.steps.held) (c : FlushCause) (n : Nat) :
    s.steps.ShrinksTo (({ s with steps.held := kept } : State).countFlushed c n).steps := by
  rw [State.countFlushed_steps]
  exact ⟨left, rfl, rfl⟩

theorem State.flushAll_shrinks (c : FlushCause) : s.steps.ShrinksTo (s.flushAll c).steps :=
  s.countFlushed_shrinks [] (List.nil_sublist _) c _

theorem State.loseTrust_shrinks (c : RunCause) : s.steps.ShrinksTo (s.loseTrust c).steps := by
  unfold State.loseTrust
  split
  · exact State.flushAll_shrinks (State.safeTransitions { s with run := .failsafe }) .failsafe
  · exact .refl _

theorem State.softReset_shrinks : s.steps.ShrinksTo s.softReset.steps := by
  have flushed := State.flushAll_shrinks (State.safeTransitions { s with run := .safe }) .softReset
  unfold State.softReset
  dsimp only
  split <;> exact flushed

theorem State.enterUnsynced_shrinks : s.steps.ShrinksTo s.enterUnsynced.steps :=
  .trans (State.flushAll_shrinks (State.report { s with time := _ } _) .sync) (State.loseTrust_shrinks _ .sync)

theorem State.expireMarkTimer_shrinks : s.steps.ShrinksTo s.expireMarkTimer.steps := by
  unfold State.expireMarkTimer
  split_ifs
  · split
    · exact s.enterUnsynced_shrinks
    all_goals exact .refl _
  · exact .refl _

theorem State.expireHoldoverTimer_shrinks : s.steps.ShrinksTo s.expireHoldoverTimer.steps := by
  unfold State.expireHoldoverTimer
  split_ifs
  · split
    · exact s.enterUnsynced_shrinks
    all_goals exact .refl _
  · exact .refl _

theorem State.expireLinkTimer_shrinks : s.steps.ShrinksTo s.expireLinkTimer.steps := by
  rcases s.expireLinkTimer_cases with ⟨_, idle⟩ | ⟨_, down⟩
  · rw [idle]; exact .refl _
  · rw [down]; exact State.loseTrust_shrinks (State.report { s with link.link := _, link.linkTimer := _ } _) .link

theorem State.takeDue_shrinks : s.steps.ShrinksTo s.takeDue.steps := by
  rcases s.takeDue_cases with idle | ⟨st, rest, held, _, ⟨_, applied⟩ | ⟨_, suppressed⟩⟩
  · rw [idle]; exact .refl _
  · rw [applied]; exact ⟨held ▸ List.sublist_cons_self _ _, rfl, rfl⟩
  · rw [suppressed]; exact ⟨held ▸ List.sublist_cons_self _ _, rfl, rfl⟩

theorem State.overtake_shrinks (st : Step) : s.steps.ShrinksTo (s.overtake st).steps := by
  rcases s.overtake_cases st with ⟨_, late⟩ | ⟨_, suppressed⟩ | dropped
  · rw [late]; exact .refl _
  · rw [suppressed]; exact .refl _
  · rw [dropped]; exact .refl _

theorem State.overtakeAll_shrinks (sts : List Step) : s.steps.ShrinksTo (sts.foldl State.overtake s).steps := by
  induction sts generalizing s with
  | nil => exact .refl _
  | cons st sts ih => exact .trans (s.overtake_shrinks st) (ih _)

theorem State.queueTimeStep_shrinks (amount : Int) : s.steps.ShrinksTo (s.queueTimeStep amount).steps := by
  unfold State.queueTimeStep
  split_ifs
  · exact .trans (q' := { s.steps with held := _ }) ⟨List.dropWhile_sublist _, rfl, rfl⟩
      (State.overtakeAll_shrinks { s with steps.held := _ } _)
  · exact s.countFlushed_shrinks _ List.filter_sublist _ _
  · exact .refl _

theorem State.cancelTag_shrinks (tag : Word16) : s.steps.ShrinksTo (s.cancelTag tag).steps :=
  ⟨List.filter_sublist, rfl, rfl⟩

theorem State.flushBanks_shrinks (set : Octet) : s.steps.ShrinksTo (s.flushBanks set).steps :=
  s.countFlushed_shrinks _ List.filter_sublist _ _

/-! ## Time marks (R66 to R75) -/

/-- The Timebase after a step of network time (R73, R74). -/
def Timebase.stepped (t : Timebase) (x : Word32) (e : Octet) (entered : SyncState) (good : Nat) : Timebase :=
  { t with networkTime := x, residue := 0, epoch := some e, goodMarks := good, outliers := 0, sync := entered
           holdoverTimer := none }

/-- The Timebase after a mark that agreed without a step (R69, R70, R72). -/
def Timebase.lockedOn (t : Timebase) (offset : Int) : Timebase :=
  { t with residue := offset, outliers := 0, goodMarks := 3, sync := .locked, holdoverTimer := none }

/-- A step of network time is made from a state that differs in records and Timebase alone. -/
theorem State.stepTime_eq (x : Word32) (e : Octet) (entered : SyncState) (good : Nat) :
    ∃ l : EventList, s.stepTime x e entered good
      = ({ s with time := s.time.stepped x e entered good, events := l } : State).queueTimeStep
          (x - s.time.networkTime).toInt := by
  unfold State.stepTime
  dsimp only
  split_ifs <;> exact ⟨_, rfl⟩

@[simp] theorem State.stepTime_time (x : Word32) (e : Octet) (entered : SyncState) (good : Nat) :
    (s.stepTime x e entered good).time = s.time.stepped x e entered good := by
  obtain ⟨l, stepped⟩ := s.stepTime_eq x e entered good
  rw [stepped]
  simp

theorem State.stepTime_shrinks (x : Word32) (e : Octet) (entered : SyncState) (good : Nat) :
    s.steps.ShrinksTo (s.stepTime x e entered good).steps := by
  obtain ⟨l, stepped⟩ := s.stepTime_eq x e entered good
  rw [stepped]
  exact State.queueTimeStep_shrinks { s with time := _, events := l } _

@[simp] theorem State.lockOn_time (offset : Int) : (s.lockOn offset).time = s.time.lockedOn offset := by
  unfold State.lockOn
  dsimp only
  split <;> rfl

/-- What a mark can lead to, by the rows of Table 5.2. -/
theorem State.judgeMark_cases (x : Word32) (e : Octet) :
    (∃ entered good, (entered = .acquiring ∧ good = 1 ∨ entered = .locked ∧ good = 3)
      ∧ s.judgeMark x e = s.stepTime x e entered good)
    ∨ (∃ offset : Int, s.time.sync ≠ .unsynced ∧ s.time.epoch = some e
        ∧ offset.natAbs ≤ max s.time.lockWindow s.time.slewLimit ∧ s.judgeMark x e = s.lockOn offset)
    ∨ (s.time.sync = .acquiring ∧ s.time.goodMarks + 1 < 3
        ∧ s.judgeMark x e = { s with time.goodMarks := s.time.goodMarks + 1 })
    ∨ (s.time.sync = .locked ∧ s.judgeMark x e = { s with time.outliers := 1 }) := by
  unfold State.judgeMark
  dsimp only
  split
  · exact .inl ⟨_, _, .inl ⟨rfl, rfl⟩, rfl⟩
  next sync =>
    split_ifs with agrees counting
    · exact .inr (.inr (.inl ⟨sync, counting, rfl⟩))
    · exact .inr (.inl ⟨_, by simp [sync], agrees.1, le_max_of_le_left agrees.2, rfl⟩)
    · exact .inl ⟨_, _, .inl ⟨rfl, rfl⟩, rfl⟩
  next sync =>
    split_ifs with other near outlier
    · exact .inl ⟨_, _, .inr ⟨rfl, rfl⟩, rfl⟩
    · exact .inr (.inl ⟨_, by simp [sync], not_not.1 other, le_max_of_le_right near, rfl⟩)
    · exact .inr (.inr (.inr ⟨sync, rfl⟩))
    · exact .inl ⟨_, _, .inl ⟨rfl, rfl⟩, rfl⟩
  next sync =>
    split_ifs with agrees
    · exact .inr (.inl ⟨_, by simp [sync], agrees.1, le_max_of_le_right agrees.2, rfl⟩)
    · exact .inl ⟨_, _, .inl ⟨rfl, rfl⟩, rfl⟩

/-- Arming the mark timer is the last act of taking a mark (R75). -/
theorem State.takeMark_eq (m : Word32) (e hops : Octet) :
    s.takeMark m e hops
      = let u := s.judgeMark (s.time.expected m hops) e
        { u with time.markTimer := some u.time.markTimeout } := rfl

theorem State.takeMark_shrinks (m : Word32) (e hops : Octet) : s.steps.ShrinksTo (s.takeMark m e hops).steps := by
  rw [s.takeMark_eq]
  rcases s.judgeMark_cases (s.time.expected m hops) e with ⟨y, g, _, h⟩ | ⟨o, _, _, _, h⟩ | ⟨_, _, h⟩ | ⟨_, h⟩ <;> rw [h]
  · exact s.stepTime_shrinks _ _ _ _
  · simpa using StepQueue.ShrinksTo.refl s.steps
  · exact .refl _
  · exact .refl _

/-- A mark gives time: no mark leaves the node UNSYNCED. -/
theorem State.takeMark_sync (m : Word32) (e hops : Octet) : (s.takeMark m e hops).time.sync ≠ .unsynced := by
  rw [s.takeMark_eq]
  rcases s.judgeMark_cases (s.time.expected m hops) e with ⟨y, g, row, h⟩ | ⟨o, _, _, _, h⟩ | ⟨sync, _, h⟩ | ⟨sync, h⟩ <;>
    rw [h]
  · rcases row with ⟨rfl, _⟩ | ⟨rfl, _⟩ <;> simp [Timebase.stepped]
  · simp [Timebase.lockedOn]
  · simp [sync]
  · simp [sync]

end Sys2Proof.Machine
end

section
/-! The laws of Run Control and of the Timebase: an armed node has time and link (R78, R101, R134), and the fields and
timers of Table 5.1 belong to their sync states (R75, R76, R78). -/

namespace Sys2Proof.Machine

/-! ## Run states (R78, R101, R134) -/

/-- The law when neither run state, sync state nor link state changed and steps only left the queue. -/
theorem State.RunLaw.of_shrinks {s t : State} (h : s.RunLaw) (run : t.run = s.run) (sync : t.time.sync = s.time.sync)
    (link : t.link.link = s.link.link) (left : s.steps.ShrinksTo t.steps) : t.RunLaw := by
  obtain ⟨armed, failsafe, unsynced⟩ := h
  have emptied : s.steps.held = [] → t.steps.held = [] := fun none => List.sublist_nil.1 (none ▸ left.1)
  refine ⟨fun r => ?_, fun r => emptied (failsafe (run ▸ r)), fun r => emptied (unsynced (sync ▸ r))⟩
  rw [sync, link]
  exact armed (run ▸ r)

theorem State.loseTrust_run (s : State) (c : RunCause) :
    (s.run = .armed ∧ (s.loseTrust c).run = .failsafe ∧ (s.loseTrust c).steps.held = [])
      ∨ (s.run ≠ .armed ∧ s.loseTrust c = s) := by
  unfold State.loseTrust
  split
  · exact .inl ⟨‹_›, by simp [State.enterFailsafe], by simp [State.enterFailsafe]⟩
  · exact .inr ⟨‹_›, rfl⟩

/-- Losing time or link, with the queue empty when it was time, leaves no armed node. -/
theorem State.loseTrust_runLaw {s : State} (c : RunCause) (failsafe : s.run = .failsafe → s.steps.held = [])
    (unsynced : s.time.sync = .unsynced → s.steps.held = []) : (s.loseTrust c).RunLaw := by
  rcases s.loseTrust_run c with ⟨_, run, held⟩ | ⟨notArmed, same⟩
  · exact ⟨by simp [run], fun _ => held, fun _ => held⟩
  · rw [same]
    exact ⟨fun armed => absurd armed notArmed, failsafe, unsynced⟩

theorem State.enterUnsynced_runLaw (s : State) : s.enterUnsynced.RunLaw := by
  unfold State.enterUnsynced
  exact State.loseTrust_runLaw _ (fun _ => by simp) (fun _ => by simp)

theorem State.disarm_run (s : State) (c : RunCause) : (s.disarm c).run = .safe := by
  unfold State.disarm
  split
  · rfl
  · rfl
  · assumption

theorem State.RunLaw.disarm {s : State} (h : s.RunLaw) (c : RunCause) : (s.disarm c).RunLaw := by
  obtain ⟨_, _, unsynced⟩ := h
  refine ⟨fun r => ?_, fun r => ?_, by simpa using unsynced⟩ <;> simp [s.disarm_run] at r

theorem State.softReset_run (s : State) : s.softReset.run = .safe ∧ s.softReset.steps.held = [] := by
  unfold State.softReset
  dsimp only
  split <;> simp

theorem State.worked_runLaw {s t : State} (w : s.Worked t) (h : s.RunLaw) : t.RunLaw := by
  have ⟨armed, failsafe, unsynced⟩ := h
  cases w with
  | param p => cases p <;> exact h
  | armed trusted =>
    obtain ⟨locked, up⟩ := trusted
    exact ⟨fun _ => ⟨by simp [locked], up⟩, fun r => absurd r (by simp), unsynced⟩
  | disarmed => exact h.disarm .disarm
  | cancelled tag => exact h.of_shrinks rfl rfl rfl (s.cancelTag_shrinks tag)
  | flushed set =>
    exact h.of_shrinks (by simp [State.flushBanks]) (by simp [State.flushBanks]) (by simp [State.flushBanks])
      (s.flushBanks_shrinks set)
  | softReset =>
    obtain ⟨run, held⟩ := s.softReset_run
    exact ⟨fun r => by simp [run] at r, fun _ => held, fun _ => held⟩
  | _ => exact h

theorem State.offerStep_runLaw {s : State} (st : Step) (h : s.RunLaw) : (s.offerStep st).RunLaw := by
  have ⟨armed, _, _⟩ := h
  rcases s.offerStep_cases st with ⟨_, _, rejected⟩ | ⟨passed, accepted⟩
  · rw [rejected]; exact h
  · obtain ⟨notFailsafe, valid, _⟩ := s.rejection_none st passed
    rw [accepted]
    refine ⟨by simpa using armed, fun r => absurd (by simpa using r) notFailsafe, fun r => ?_⟩
    simp only [State.acceptStep_frame] at r
    simp [Timebase.timeValid, r] at valid

theorem State.takeMark_runLaw {s : State} (m : Word32) (e hops : Octet) (h : s.RunLaw) :
    (s.takeMark m e hops).RunLaw := by
  obtain ⟨armed, failsafe, _⟩ := h
  have synced := s.takeMark_sync m e hops
  obtain ⟨left, _⟩ := s.takeMark_shrinks m e hops
  refine ⟨fun r => ?_, fun r => ?_, fun r => absurd r synced⟩
  · simp only [State.takeMark_frame] at r ⊢
    exact ⟨synced, (armed r).2⟩
  · simp only [State.takeMark_frame] at r
    exact List.sublist_nil.1 (failsafe r ▸ left)

theorem runLaw_controlInvariant : ControlInvariant State.RunLaw where
  congr {s t} h same := by
    injection same with _ time steps _ run _ link
    exact h.of_shrinks run (congrArg Timebase.sync time) link (steps ▸ .refl _)
  fell _ _ := ⟨fun armed => (by cases armed), fun _ => rfl, fun _ => rfl⟩
  rose _ _ _ := ⟨fun armed => (by cases armed), fun _ => rfl, fun _ => rfl⟩
  restarted _ _ _ := ⟨fun armed => (by cases armed), fun _ => rfl, fun _ => rfl⟩
  reported _ _ _ h := h
  linkedUp _ h := ⟨fun armed => ⟨(h.1 armed).1, rfl⟩, h.2⟩
  marked _ m e hops h := State.takeMark_runLaw m e hops h
  sequenced _ _ _ _ h := h
  offered _ st _ h := State.offerStep_runLaw st h
  disarmed s h := h.disarm .broadcastDisarm
  worked _ _ w h := State.worked_runLaw w h
  linkLost s h := by
    have ⟨_, failsafe, unsynced⟩ := h
    rcases s.expireLinkTimer_cases with ⟨_, idle⟩ | ⟨_, down⟩
    · rwa [idle]
    · rw [down]; exact State.loseTrust_runLaw _ failsafe unsynced
  markLost s h := by
    unfold State.expireMarkTimer
    split_ifs
    · split
      · exact s.enterUnsynced_runLaw
      next locked =>
        obtain ⟨armed, failsafe, _⟩ := h
        exact ⟨fun r => ⟨fun lost => (by cases lost), (armed r).2⟩, failsafe, fun lost => (by cases lost)⟩
      all_goals exact h
    · exact h
  holdoverLost s h := by
    unfold State.expireHoldoverTimer
    split_ifs
    · split
      · exact s.enterUnsynced_runLaw
      all_goals exact h
    · exact h
  fellDue s h := h.of_shrinks (by simp) (by simp) (by simp) s.takeDue_shrinks
  transitioned s id h := h.of_shrinks (by simp) (by simp) (by simp) (by simpa using StepQueue.ShrinksTo.refl _)
  reverted s id i h := h.of_shrinks (by simp) (by simp) (by simp) (by simpa using StepQueue.ShrinksTo.refl _)
  edged s id i h := h.of_shrinks (by simp) (by simp) (by simp) (by simpa using StepQueue.ShrinksTo.refl _)
  advanced _ h := h

/-- Settles O53: the node is armed only while LOCKED and UP, a loss of either ends ARMED, and the loss of time and FAILSAFE
both empty the queue, into which neither state accepts a step. -/
theorem everyStepKeepsTheRunLaw : Obligations.EveryStepKeepsTheRunLaw := by
  unfold Obligations.EveryStepKeepsTheRunLaw
  exact fun _ _ => runLaw_controlInvariant.step fun _ _ h => h

/-! ## Parameters and the Timebase (Tables 5.1 and 9.7) -/

/-- Every parameter keeps its range while time, link timeout and the queue's two limits stand. -/
theorem State.ParamLaw.of_shrinks {s t : State} (h : s.ParamLaw) (lockWindow : t.time.lockWindow = s.time.lockWindow)
    (slewLimit : t.time.slewLimit = s.time.slewLimit) (markTimeout : t.time.markTimeout = s.time.markTimeout)
    (holdoverLimit : t.time.holdoverLimit = s.time.holdoverLimit) (hopDelay : t.time.hopDelay = s.time.hopDelay)
    (link : t.link.linkTimeout = s.link.linkTimeout) (left : s.steps.ShrinksTo t.steps) : t.ParamLaw := by
  obtain ⟨_, window, limit⟩ := left
  rw [State.ParamLaw, lockWindow, slewLimit, markTimeout, holdoverLimit, hopDelay, link, window, limit]
  exact h

theorem State.TimeLaw.of_shrinks {s t : State} (h : s.TimeLaw) (time : t.time = s.time)
    (link : t.link.linkTimeout = s.link.linkTimeout) (left : s.steps.ShrinksTo t.steps) : t.TimeLaw := by
  obtain ⟨params, law⟩ := h
  exact ⟨params.of_shrinks (by rw [time]) (by rw [time]) (by rw [time]) (by rw [time]) (by rw [time]) link left,
    time ▸ law⟩

theorem Timebase.reset_law : Timebase.reset.Law := by decide

theorem State.reset_paramLaw : State.reset.ParamLaw := by decide

/-- A reset puts time, parameters and link at their reset values. -/
theorem State.timeLaw_of_reset {s : State} (time : s.time = .reset) (steps : s.steps = .reset)
    (link : s.link.linkTimeout = LinkReceiver.reset.linkTimeout) : s.TimeLaw := by
  have reset : State.reset.TimeLaw := ⟨State.reset_paramLaw, Timebase.reset_law⟩
  exact reset.of_shrinks time link (steps ▸ .refl _)

/-- Every row of Table 5.2 ends in a lawful Timebase with the mark timer armed. -/
theorem State.takeMark_timeLaw {s : State} (m : Word32) (e hops : Octet) (h : s.TimeLaw) :
    (s.takeMark m e hops).TimeLaw := by
  obtain ⟨params, law⟩ := h
  have left := s.takeMark_shrinks m e hops
  have link : (s.takeMark m e hops).link = s.link := by simp
  rw [s.takeMark_eq] at left link ⊢
  dsimp only at left link ⊢
  obtain ⟨unsynced, epoch, acquiring, good, outliers, clean, residue, still, markTimer, holdover⟩ := law
  rcases s.judgeMark_cases (s.time.expected m hops) e with
      ⟨y, g, row, h⟩ | ⟨o, synced, held, near, h⟩ | ⟨sync, counting, h⟩ | ⟨sync, h⟩ <;> rw [h] at left link ⊢
  · refine ⟨params.of_shrinks ?_ ?_ ?_ ?_ ?_ (congrArg _ link) left, ?_⟩
    case refine_6 => rcases row with ⟨rfl, rfl⟩ | ⟨rfl, rfl⟩ <;> simp [Timebase.stepped, Timebase.Law]
    all_goals simp [Timebase.stepped]
  · refine ⟨params.of_shrinks ?_ ?_ ?_ ?_ ?_ (congrArg _ link) left, ?_⟩
    case refine_6 =>
      obtain ⟨_, _, ⟨_, lockWindow⟩, ⟨_, slewLimit⟩, _⟩ := params
      have small : o.natAbs ≤ 65535 := near.trans (max_le (lockWindow.trans (by decide)) (slewLimit.trans (by decide)))
      simp [Timebase.lockedOn, Timebase.Law, held, small]
    all_goals simp [Timebase.lockedOn]
  · refine ⟨params.of_shrinks rfl rfl rfl rfl rfl rfl (.refl _), ?_⟩
    have counted := acquiring sync
    simp_all [Timebase.Law]
    omega
  · refine ⟨params.of_shrinks rfl rfl rfl rfl rfl rfl (.refl _), ?_⟩
    simp_all [Timebase.Law]

theorem tickTimer_eq_none (timer : Option Nat) : tickTimer timer = none ↔ timer = none := by
  cases timer <;> simp [tickTimer]

theorem rearm_eq_none (timer : Option Nat) (n : Nat) : rearm timer n = none ↔ timer = none := by
  simp [rearm]

/-- A tick moves the residue towards 0 and no timer stops. -/
theorem Timebase.Law.tick {t : Timebase} (h : t.Law) : t.tick.Law := by
  obtain ⟨unsynced, epoch, acquiring, good, outliers, clean, residue, still, markTimer, holdover⟩ := h
  have absorbed : t.absorbed.natAbs ≤ 65535 := by
    unfold Timebase.absorbed
    split_ifs <;> omega
  have kept : t.residue = 0 → t.absorbed = 0 := by
    intro zero
    simp [Timebase.absorbed, zero]
  refine ⟨unsynced, epoch, acquiring, good, outliers, clean, absorbed, fun sync => kept (still sync), ?_, ?_⟩
  · exact (not_congr (tickTimer_eq_none _)).trans markTimer
  · exact (not_congr (tickTimer_eq_none _)).trans holdover

theorem Timebase.Law.lost {t : Timebase} :
    ({ t with sync := .unsynced, epoch := none, goodMarks := 0, outliers := 0, residue := 0, markTimer := none
              holdoverTimer := none } : Timebase).Law := by
  simp [Timebase.Law]

theorem State.enterUnsynced_timeLaw {s : State} (h : s.ParamLaw) : s.enterUnsynced.TimeLaw := by
  have time : s.enterUnsynced.time = { s.time with
      sync := .unsynced, epoch := none, goodMarks := 0, outliers := 0, residue := 0, markTimer := none
      holdoverTimer := none } := by simp [State.enterUnsynced]
  refine ⟨h.of_shrinks ?_ ?_ ?_ ?_ ?_ (by simp) s.enterUnsynced_shrinks, time ▸ .lost⟩ <;> rw [time]

/-- CONFIG-SET stores admitted values only, and re-arms only a running timer (R5, R80). -/
theorem State.writeParam_timeLaw {s : State} {p : Param} {value : Word32} (admitted : p.admits value = true)
    (h : s.TimeLaw) : (s.writeParam p value).TimeLaw := by
  obtain ⟨⟨acceptWindow, lateLimit, lockWindow, slewLimit, markTimeout, holdoverLimit, hopDelay, linkTimeout⟩, law⟩ := h
  have range : p.inRange value.toNat := of_decide_eq_true admitted
  have rearmed : ∀ (timer : Option Nat) (P : Prop), (timer ≠ none ↔ P) → (rearm timer value.toNat ≠ none ↔ P) :=
    fun timer _ runs => (not_congr (rearm_eq_none timer _)).trans runs
  cases p with
  | acceptWindow => exact ⟨⟨range, lateLimit, lockWindow, slewLimit, markTimeout, holdoverLimit, hopDelay, linkTimeout⟩, law⟩
  | lateLimit => exact ⟨⟨acceptWindow, range, lockWindow, slewLimit, markTimeout, holdoverLimit, hopDelay, linkTimeout⟩, law⟩
  | lockWindow => exact ⟨⟨acceptWindow, lateLimit, range, slewLimit, markTimeout, holdoverLimit, hopDelay, linkTimeout⟩, law⟩
  | slewLimit => exact ⟨⟨acceptWindow, lateLimit, lockWindow, range, markTimeout, holdoverLimit, hopDelay, linkTimeout⟩, law⟩
  | markTimeout =>
    obtain ⟨unsynced, epoch, acquiring, good, outliers, clean, residue, still, markTimer, holdover⟩ := law
    exact ⟨⟨acceptWindow, lateLimit, lockWindow, slewLimit, range, holdoverLimit, hopDelay, linkTimeout⟩,
      unsynced, epoch, acquiring, good, outliers, clean, residue, still, rearmed _ _ markTimer, holdover⟩
  | holdoverLimit =>
    obtain ⟨unsynced, epoch, acquiring, good, outliers, clean, residue, still, markTimer, holdover⟩ := law
    exact ⟨⟨acceptWindow, lateLimit, lockWindow, slewLimit, markTimeout, range, hopDelay, linkTimeout⟩,
      unsynced, epoch, acquiring, good, outliers, clean, residue, still, markTimer, rearmed _ _ holdover⟩
  | hopDelay => exact ⟨⟨acceptWindow, lateLimit, lockWindow, slewLimit, markTimeout, holdoverLimit, range, linkTimeout⟩, law⟩
  | linkTimeout => exact ⟨⟨acceptWindow, lateLimit, lockWindow, slewLimit, markTimeout, holdoverLimit, hopDelay, range⟩, law⟩
  | deadTime | safePattern | attentionLevel =>
    exact ⟨⟨acceptWindow, lateLimit, lockWindow, slewLimit, markTimeout, holdoverLimit, hopDelay, linkTimeout⟩, law⟩

theorem State.worked_timeLaw {s t : State} (w : s.Worked t) (h : s.TimeLaw) : t.TimeLaw := by
  cases w with
  | param p value admitted => exact State.writeParam_timeLaw admitted h
  | disarmed => exact h.of_shrinks (by simp) (by simp) (by simpa using StepQueue.ShrinksTo.refl _)
  | cancelled tag => exact h.of_shrinks rfl rfl (s.cancelTag_shrinks tag)
  | flushed set => exact h.of_shrinks (by simp [State.flushBanks]) (by simp [State.flushBanks]) (s.flushBanks_shrinks set)
  | softReset => exact h.of_shrinks (by simp) (by simp) s.softReset_shrinks
  | _ => exact h

/-- Offering a step changes held steps and counters only. -/
theorem State.offerStep_limits (s : State) (st : Step) :
    (s.offerStep st).steps.acceptWindow = s.steps.acceptWindow ∧ (s.offerStep st).steps.lateLimit = s.steps.lateLimit := by
  rcases s.offerStep_cases st with ⟨_, _, rejected⟩ | ⟨_, accepted⟩
  · rw [rejected]; exact ⟨rfl, rfl⟩
  · rw [accepted, State.acceptStep]
    dsimp only
    split_ifs <;> exact ⟨rfl, rfl⟩

theorem timeLaw_controlInvariant : ControlInvariant State.TimeLaw where
  congr {s t} h same := by
    injection same with _ time steps _ _ _ _ linkTimeout
    exact h.of_shrinks time linkTimeout (steps ▸ .refl _)
  fell _ _ := State.timeLaw_of_reset rfl rfl rfl
  rose _ _ _ := State.timeLaw_of_reset rfl rfl rfl
  restarted _ _ _ := State.timeLaw_of_reset rfl rfl rfl
  reported _ _ _ h := h
  linkedUp _ h := h
  marked _ m e hops h := State.takeMark_timeLaw m e hops h
  sequenced _ _ _ _ h := h
  offered s st _ h := by
    obtain ⟨params, law⟩ := h
    obtain ⟨window, limit⟩ := s.offerStep_limits st
    refine ⟨?_, by simpa only [State.offerStep_frame] using law⟩
    simp only [State.ParamLaw, window, limit, State.offerStep_frame]
    exact params
  disarmed s h := h.of_shrinks (by simp) (by simp) (by simpa using StepQueue.ShrinksTo.refl _)
  worked _ _ w h := State.worked_timeLaw w h
  linkLost s h := by
    refine h.of_shrinks (by simp) ?_ s.expireLinkTimer_shrinks
    rcases s.expireLinkTimer_cases with ⟨_, idle⟩ | ⟨_, down⟩
    · rw [idle]
    · rw [down]; simp
  markLost s h := by
    obtain ⟨params, law⟩ := h
    unfold State.expireMarkTimer
    split_ifs
    · split
      · exact State.enterUnsynced_timeLaw params
      next locked => exact ⟨params, by simp_all [Timebase.Law, State.enterHoldover]⟩
      all_goals exact ⟨params, by simp_all [Timebase.Law]⟩
    · exact ⟨params, law⟩
  holdoverLost s h := by
    obtain ⟨params, law⟩ := h
    unfold State.expireHoldoverTimer
    split_ifs
    · split
      · exact State.enterUnsynced_timeLaw params
      all_goals exact ⟨params, by simp_all [Timebase.Law]⟩
    · exact ⟨params, law⟩
  fellDue s h := h.of_shrinks (by simp) (by simp) s.takeDue_shrinks
  transitioned s id h := h.of_shrinks (by simp) (by simp) (by simpa using StepQueue.ShrinksTo.refl _)
  reverted s id i h := h.of_shrinks (by simp) (by simp) (by simpa using StepQueue.ShrinksTo.refl _)
  edged s id i h := h.of_shrinks (by simp) (by simp) (by simpa using StepQueue.ShrinksTo.refl _)
  advanced s h := by
    obtain ⟨params, law⟩ := h
    exact ⟨params.of_shrinks rfl rfl rfl rfl rfl rfl (.refl _), law.tick⟩

end Sys2Proof.Machine
end

section
/-! The laws of the Output Unit, read off one line at a time: line records and make sets agree with the latch (R107, R108,
R112), and outside ARMED every bank is at its safe pattern (R123). -/

namespace Sys2Proof.Machine

/-! ## The laws of one line -/

/-- What Bank.Law asks of one line (Tables 7.1 to 7.3). -/
structure LineView.Law (v : LineView) : Prop where
  lawful : v.mode.lawful v.value = true
  quiet : v.inMake = true → v.value = false ∧ v.mode = .static
  pulsed : ∀ q ∈ v.waiting, v.inMake = true ∧ q.width ≠ 0

/-- What a safe pattern asks of one line (R123). -/
structure LineView.Safe (v : LineView) (pattern : Bool) : Prop where
  static : v.mode = .static
  reads : (v.value || v.inMake) = pattern
  unpulsed : v.waiting = none

theorem Bank.law_iff (b : Bank) :
    b.Law ↔ (∀ i, (b.view i).Law) ∧ ∀ n ∈ b.transition.map (·.timer), n ≤ 255 := by
  cases pending : b.transition with
  | none =>
    refine ⟨fun h => ⟨fun i => ⟨h.1 i, ?_, ?_⟩, by simp⟩, fun h => ⟨fun i => (h.1 i).lawful, by simp [pending]⟩⟩ <;>
      simp [Bank.view, pending]
  | some t =>
    constructor
    · intro h
      obtain ⟨timer, make⟩ := h.2 t pending
      refine ⟨fun i => ⟨h.1 i, ?_, ?_⟩, by simpa using timer⟩
      · simpa [Bank.view, pending] using (make i).1
      · simpa [Bank.view, pending] using (make i).2
    · rintro ⟨lines, timer⟩
      refine ⟨fun i => (lines i).lawful, fun u same => ?_⟩
      obtain rfl : t = u := by simpa [pending] using same
      refine ⟨by simpa using timer, fun i => ⟨?_, ?_⟩⟩
      · simpa [Bank.view, pending] using (lines i).quiet
      · simpa [Bank.view, pending] using (lines i).pulsed

theorem Bank.inSet_waiting (b : Bank) (i : Fin 8) : inSet b.waiting i = (b.view i).inMake := by
  cases pending : b.transition with
  | none => simpa [Bank.waiting, Bank.view, pending] using inSet_zero i
  | some t => simp [Bank.waiting, Bank.view, pending]

theorem Bank.atSafePattern_iff (b : Bank) :
    b.AtSafePattern ↔ ∀ i, (b.view i).Safe (inSet b.safePattern i) := by
  have pulses : (∀ t ∈ b.transition, ∀ i : Fin 8, t.pulses[i] = none) ↔ ∀ i, (b.view i).waiting = none := by
    cases pending : b.transition <;> simp [Bank.view, pending]
  have pattern : b.latch ||| b.waiting = b.safePattern
      ↔ ∀ i, ((b.view i).value || (b.view i).inMake) = inSet b.safePattern i := by
    constructor
    · intro h i
      rw [← h, inSet_or, b.inSet_waiting]
      rfl
    · intro h
      refine ext_inSet _ _ fun i => ?_
      rw [inSet_or, b.inSet_waiting]
      exact h i
  rw [Bank.AtSafePattern, pulses, pattern]
  exact ⟨fun ⟨static, reads, unpulsed⟩ i => ⟨static i, reads i, unpulsed i⟩,
    fun h => ⟨fun i => (h i).static, fun i => (h i).reads, fun i => (h i).unpulsed⟩⟩

/-! ## Applying a step (R110 to R113) -/

theorem BankStep.lineTaken_lawful (p : BankStep) (revert : Bool) : (p.lineTaken revert).lawful (!revert) = true := by
  unfold BankStep.lineTaken
  split
  · rfl
  next w _ =>
    have : w.toNat ≤ 65535 := by omega
    simpa [LineMode.lawful] using this

theorem BankStep.pendingPulse_wide {p : BankStep} (wide : p.pulse ≠ some 0) : ∀ q ∈ p.pendingPulse, q.width ≠ 0 := by
  rintro q mem zero
  obtain ⟨w, width, rfl⟩ := Option.map_eq_some_iff.1 mem
  obtain rfl : w = 0 := zero
  exact wide width

/-- What applying a step makes of one line, by the branches of R110 to R113. -/
theorem Bank.applyStep_view_cases (b : Bank) (p : BankStep) (i : Fin 8) :
    (inSet p.mask i = false ∧ (b.applyStep p).view i = b.view i)
    ∨ (inSet p.mask i = true ∧ inSet p.value i = false ∧ (b.applyStep p).view i
        = { value := false, mode := if inSet b.latch i then p.lineTaken true else .static, inMake := false, waiting := none })
    ∨ (inSet p.mask i = true ∧ inSet p.value i = true ∧ inSet b.latch i = true
        ∧ (b.applyStep p).view i = { b.view i with value := true, mode := .static })
    ∨ (inSet p.mask i = true ∧ inSet p.value i = true ∧ b.delays p
        ∧ (b.applyStep p).view i = { value := false, mode := .static, inMake := true, waiting := p.pendingPulse })
    ∨ (inSet p.mask i = true ∧ inSet p.value i = true ∧ inSet b.latch i = false ∧ ¬b.delays p
        ∧ (b.applyStep p).view i = { value := true, mode := p.lineTaken false, inMake := false, waiting := none }) := by
  cases masked : inSet p.mask i with
  | false => exact .inl ⟨rfl, b.applyStep_view_unmasked p i masked⟩
  | true =>
    cases value : inSet p.value i with
    | false => exact .inr (.inl ⟨rfl, rfl, b.applyStep_view_break p i masked value⟩)
    | true =>
      cases read : inSet b.latch i with
      | true => exact .inr (.inr (.inl ⟨rfl, rfl, rfl, b.applyStep_view_stays p i masked value read⟩))
      | false =>
        by_cases delayed : b.delays p
        · exact .inr (.inr (.inr (.inl ⟨rfl, rfl, delayed, b.applyStep_view_delayed p i masked value read delayed⟩)))
        · exact .inr (.inr (.inr (.inr
            ⟨rfl, rfl, rfl, delayed, b.applyStep_view_immediate p i masked value read delayed⟩)))

theorem Bank.Law.applyStep {b : Bank} (h : b.Law) (p : BankStep) (wide : p.pulse ≠ some 0) : (b.applyStep p).Law := by
  obtain ⟨lines, timer⟩ := b.law_iff.1 h
  refine (Bank.law_iff _).2 ⟨fun i => ?_, fun n mem => ?_⟩
  · rcases b.applyStep_view_cases p i with
      ⟨_, v⟩ | ⟨_, _, v⟩ | ⟨_, _, read, v⟩ | ⟨_, _, _, v⟩ | ⟨_, _, _, _, v⟩ <;> rw [v]
    · exact lines i
    · refine ⟨?_, by simp, by simp⟩
      split
      · exact p.lineTaken_lawful true
      · rfl
    · have notMake : (b.view i).inMake = false := by
        refine Bool.eq_false_iff.2 fun make => ?_
        exact Bool.false_ne_true (((lines i).quiet make).1.symm.trans read)
      refine ⟨rfl, fun make => ?_, (lines i).pulsed⟩
      exact absurd make (by simp [notMake])
    · exact ⟨rfl, fun _ => ⟨rfl, rfl⟩, fun q mem => ⟨rfl, BankStep.pendingPulse_wide wide q mem⟩⟩
    · exact ⟨p.lineTaken_lawful false, by simp, by simp⟩
  · rw [b.applyStep_timer p] at mem
    cases pending : b.transition with
    | some t =>
      rw [pending] at mem timer
      exact timer n mem
    | none =>
      rw [pending] at mem
      have dead : b.deadTime.toNat ≤ 255 := by omega
      dsimp only at mem
      split_ifs at mem
      · rwa [← Option.some.inj mem]
      · cases mem

/-! ## The other operations on a bank -/

/-- The expiry of a transition sets the lines that waited and starts their pulses (R114). -/
theorem Bank.expireTransition_view (b : Bank) (i : Fin 8) :
    b.expireTransition.view i =
      { value := (b.view i).value || (b.view i).inMake
        mode := if (b.view i).inMake then
            match (b.view i).waiting with
            | some q => .pulse false q.width.toNat q.mode
            | none => (b.view i).mode
          else (b.view i).mode
        inMake := false
        waiting := none } := by
  cases pending : b.transition <;> simp [Bank.view, Bank.expireTransition, pending] <;> rfl

theorem Bank.Law.expireTransition {b : Bank} (h : b.Law) : b.expireTransition.Law := by
  obtain ⟨lines, _⟩ := b.law_iff.1 h
  refine (Bank.law_iff _).2 ⟨fun i => ?_, by simp⟩
  rw [b.expireTransition_view i]
  obtain ⟨lawful, quiet, _⟩ := lines i
  refine ⟨?_, by simp, by simp⟩
  cases make : (b.view i).inMake with
  | false => simpa using lawful
  | true =>
    obtain ⟨_, static⟩ := quiet make
    cases (b.view i).waiting with
    | none => simp [static, LineMode.lawful]
    | some q =>
      have : q.width.toNat ≤ 65535 := by omega
      simpa [LineMode.lawful] using this

theorem Bank.Law.expirePulse {b : Bank} (h : b.Law) (i : Fin 8) : (b.expirePulse i).Law := by
  unfold Bank.expirePulse
  split
  · dsimp only
    refine Bank.Law.applyStep ?_ _ (by simp [oneLineStep])
    split
    · exact h.applyStep _ (by simp)
    · exact h
  all_goals exact h

/-- Taking an edge of a cadence writes the line's latch bit and clears its mark (R119). -/
theorem Bank.takeEdge_view_other (b : Bank) {i j : Fin 8} (other : i ≠ j) : (b.takeEdge i).view j = b.view j := by
  unfold Bank.takeEdge
  split
  · split_ifs <;> simp [Bank.view, Fin.val_ne_of_ne other, other]
  all_goals rfl

theorem Bank.Law.takeEdge {b : Bank} (h : b.Law) (i : Fin 8) : (b.takeEdge i).Law := by
  obtain ⟨lines, timer⟩ := b.law_iff.1 h
  refine (Bank.law_iff _).2 ⟨fun j => ?_, by simpa using timer⟩
  by_cases same : i = j
  · subst same
    unfold Bank.takeEdge
    split
    next period onTime phase line =>
      obtain ⟨lawful, quiet, pulsed⟩ := lines i
      have mode : (b.view i).mode = .cadence period onTime phase true := line
      have notMake : (b.view i).inMake ≠ true := fun make => by simpa [mode] using (quiet make).2
      rw [mode] at lawful
      refine ⟨?_, fun make => absurd make notMake, pulsed⟩
      simpa [Bank.view, LineMode.lawful] using lawful
    all_goals exact lines i
  · rw [b.takeEdge_view_other same]
    exact lines j

theorem Bank.startCadence_view_other (b : Bank) {i j : Fin 8} (other : i ≠ j) (period onTime : Nat) :
    (b.startCadence i period onTime).view j = b.view j := by
  cases pending : b.transition <;>
    simp [Bank.view, Bank.startCadence, pending, Fin.val_ne_of_ne other, other]

theorem Bank.startCadence_view_same (b : Bank) (i : Fin 8) (period onTime : Nat) :
    (b.startCadence i period onTime).view i
      = { value := true, mode := .cadence period onTime 0 false, inMake := false, waiting := none } := by
  cases pending : b.transition <;> simp [Bank.view, Bank.startCadence, pending]

theorem Bank.Law.startCadence {b : Bank} (h : b.Law) (i : Fin 8) {period onTime : Nat}
    (good : 1 ≤ onTime ∧ onTime < period ∧ period ≤ 65535) : (b.startCadence i period onTime).Law := by
  obtain ⟨lines, timer⟩ := b.law_iff.1 h
  refine (Bank.law_iff _).2 ⟨fun j => ?_, ?_⟩
  · by_cases same : i = j
    · subst same
      rw [b.startCadence_view_same]
      refine ⟨?_, by simp, by simp⟩
      simp only [LineMode.lawful, decide_eq_true_eq]
      omega
    · rw [b.startCadence_view_other same]
      exact lines j
  · simpa [Bank.startCadence, Option.map_map, Function.comp_def] using timer

theorem Bank.tick_view (b : Bank) (i : Fin 8) : b.tick.view i = { b.view i with mode := (b.view i).mode.tick } := by
  cases pending : b.transition <;> simp [Bank.view, Bank.tick, pending]

theorem LineMode.tick_lawful {m : LineMode} {value : Bool} (h : m.lawful value = true) : m.tick.lawful value = true := by
  cases m with
  | static => rfl
  | pulse revert left mode =>
    simp only [LineMode.lawful, LineMode.tick, Bool.and_eq_true, decide_eq_true_eq] at h ⊢
    exact ⟨h.1, by omega⟩
  | cadence period onTime phase due =>
    simp only [LineMode.lawful, LineMode.tick, decide_eq_true_eq] at h ⊢
    split_ifs <;> omega

theorem Bank.Law.tick {b : Bank} (h : b.Law) : b.tick.Law := by
  obtain ⟨lines, timer⟩ := b.law_iff.1 h
  refine (Bank.law_iff _).2 ⟨fun i => ?_, ?_⟩
  · rw [b.tick_view i]
    obtain ⟨lawful, quiet, pulsed⟩ := lines i
    refine ⟨LineMode.tick_lawful lawful, fun make => ?_, pulsed⟩
    obtain ⟨low, static⟩ := quiet make
    exact ⟨low, by simp [static, LineMode.tick]⟩
  · cases pending : b.transition with
    | none => simp [Bank.tick, pending]
    | some t =>
      have := timer t.timer (by simp [pending])
      simp [Bank.tick, pending]
      omega

/-! ## Safe transitions (R123) -/

/-- A bank whose pulses, cadences and pending transition have been ended. -/
def Bank.quieted (b : Bank) : Bank := { b with transition := none, lines := Vector.replicate 8 .static }

theorem Bank.quieted_view (b : Bank) (i : Fin 8) :
    b.quieted.view i = { value := inSet b.latch i, mode := .static, inMake := false, waiting := none } := by
  simp [Bank.quieted, Bank.view]

theorem Bank.safeTransition_eq (b : Bank) : b.safeTransition = b.quieted.applyStep b.safeStep := rfl

theorem Bank.safeTransition_kept (b : Bank) :
    b.safeTransition.safePattern = b.safePattern ∧ b.safeTransition.deadTime = b.deadTime := by
  exact b.quieted.applyStep_kept b.safeStep

/-- The pattern of a safe transition carries no pulse. -/
theorem Bank.safeStep_lineTaken (b : Bank) (revert : Bool) : b.safeStep.lineTaken revert = .static := rfl

theorem Bank.safeTransition_atSafePattern (b : Bank) : b.safeTransition.AtSafePattern := by
  refine (Bank.atSafePattern_iff _).2 fun i => ?_
  rw [b.safeTransition_kept.1, b.safeTransition_eq]
  have pattern : inSet b.safeStep.value i = inSet b.safePattern i := rfl
  have latch : inSet b.quieted.latch i = inSet b.latch i := rfl
  rcases b.quieted.applyStep_view_cases b.safeStep i with
    ⟨unmasked, _⟩ | ⟨_, zero, v⟩ | ⟨_, one, read, v⟩ | ⟨_, one, _, v⟩ | ⟨_, one, _, _, v⟩
  · exact absurd unmasked (by simp [Bank.safeStep])
  · rw [v, ← pattern, zero, b.safeStep_lineTaken]
    exact ⟨by simp, rfl, rfl⟩
  · rw [v, ← pattern, one, b.quieted_view]
    exact ⟨rfl, rfl, rfl⟩
  · rw [v, ← pattern, one]
    exact ⟨rfl, rfl, rfl⟩
  · rw [v, ← pattern, one, b.safeStep_lineTaken]
    exact ⟨rfl, rfl, rfl⟩

theorem Bank.safeTransition_law (b : Bank) : b.safeTransition.Law := by
  have quiet : b.quieted.Law := by
    refine (Bank.law_iff _).2 ⟨fun i => ?_, by simp [Bank.quieted]⟩
    rw [b.quieted_view]
    exact ⟨rfl, by simp, by simp⟩
  exact quiet.applyStep _ (by simp [Bank.safeStep])

/-- A bank at its safe pattern stays there when a transition expires and when a tick passes. -/
theorem Bank.AtSafePattern.expireTransition {b : Bank} (h : b.AtSafePattern) : b.expireTransition.AtSafePattern := by
  refine (Bank.atSafePattern_iff _).2 fun i => ?_
  obtain ⟨static, reads, unpulsed⟩ := b.atSafePattern_iff.1 h i
  rw [(b.expireTransition_kept).1, b.expireTransition_view i]
  exact ⟨by simp [static, unpulsed], by simpa using reads, rfl⟩

theorem Bank.AtSafePattern.tick {b : Bank} (h : b.AtSafePattern) : b.tick.AtSafePattern := by
  refine (Bank.atSafePattern_iff _).2 fun i => ?_
  obtain ⟨static, reads, unpulsed⟩ := b.atSafePattern_iff.1 h i
  rw [b.tick_kept.2.1, b.tick_view i]
  exact ⟨by simp [static, LineMode.tick], reads, unpulsed⟩

theorem Bank.AtSafePattern.pulseDue {b : Bank} (h : b.AtSafePattern) (i : Fin 8) : b.pulseDue i = false := by
  simp only [Bank.pulseDue, h.1 i]

theorem Bank.AtSafePattern.edgeDue {b : Bank} (h : b.AtSafePattern) (i : Fin 8) : b.edgeDue i = false := by
  simp only [Bank.edgeDue, h.1 i]

theorem Bank.reset_law : Bank.reset.Law := by decide

theorem Bank.reset_atSafePattern : Bank.reset.AtSafePattern := by decide

end Sys2Proof.Machine
end

section
/-! The statements about the Output Unit at every step: the banks agree with their records (R107, R108, R112), and outside
ARMED they are at their safe patterns (R123). -/

namespace Sys2Proof.Machine

/-! ## The three banks and the steps held for them -/

theorem State.bankLaw_iff (s : State) :
    s.BankLaw ↔ (∀ id, (s.out.bank id).Law) ∧ ∀ st ∈ s.steps.held, st.pulse ≠ some 0 := by
  rw [s.out.forall_bank Bank.Law]
  tauto

theorem OutputUnit.safeAll_law (o : OutputUnit) (id : BankId) : (o.safeAll.bank id).Law := by
  rw [OutputUnit.bank_safeAll]
  exact (o.bank id).safeTransition_law

theorem OutputUnit.reset_law (id : BankId) : (OutputUnit.reset.bank id).Law := by
  cases id <;> exact Bank.reset_law

variable {s : State}

/-- The law where lawful banks were written and steps only left the queue. -/
theorem State.BankLaw.of_shrinks {t : State} (h : s.BankLaw) (banks : ∀ id, (t.out.bank id).Law)
    (left : s.steps.ShrinksTo t.steps) : t.BankLaw := by
  obtain ⟨_, wide⟩ := s.bankLaw_iff.1 h
  exact t.bankLaw_iff.2 ⟨banks, fun st held => wide st (left.1.subset held)⟩

theorem State.BankLaw.banks (h : s.BankLaw) (id : BankId) : (s.out.bank id).Law := (s.bankLaw_iff.1 h).1 id

theorem State.BankLaw.withBank (h : s.BankLaw) (id : BankId) {f : Bank → Bank} (work : ∀ b : Bank, b.Law → (f b).Law) :
    (s.withBank id f).BankLaw :=
  h.of_shrinks (OutputUnit.forall_bank_setBank s.out id _ Bank.Law h.banks (work _ (h.banks id))) (.refl _)

theorem State.handOver_banks (banks : ∀ id, (s.out.bank id).Law) (st : Step) (wide : st.pulse ≠ some 0) (id : BankId) :
    ((s.handOver st).out.bank id).Law :=
  OutputUnit.forall_bank_setBank s.out st.bank _ Bank.Law banks ((banks st.bank).applyStep _ wide) id

theorem State.offerStep_bankLaw (st : Step) (wide : st.pulse ≠ some 0) (h : s.BankLaw) : (s.offerStep st).BankLaw := by
  obtain ⟨banks, held⟩ := s.bankLaw_iff.1 h
  rcases s.offerStep_cases st with ⟨_, _, rejected⟩ | ⟨_, accepted⟩
  · rw [rejected]; exact h
  · rw [accepted, State.acceptStep]
    dsimp only
    split_ifs
    · refine (State.bankLaw_iff _).2 ⟨banks, fun x mem => ?_⟩
      rcases (mem_insertStep x st s.steps.held).1 mem with rfl | old
      · exact wide
      · exact held x old
    · exact (State.bankLaw_iff _).2 ⟨State.handOver_banks banks st wide, held⟩
    · exact h

theorem State.takeDue_bankLaw (h : s.BankLaw) : s.takeDue.BankLaw := by
  obtain ⟨banks, wide⟩ := s.bankLaw_iff.1 h
  refine h.of_shrinks ?_ s.takeDue_shrinks
  rcases s.takeDue_cases with idle | ⟨st, rest, held, _, ⟨_, applied⟩ | ⟨_, suppressed⟩⟩
  · rw [idle]; exact banks
  · rw [applied]
    exact State.handOver_banks banks st (wide st (held ▸ List.mem_cons_self))
  · rw [suppressed]; exact banks

theorem State.overtake_banks (st : Step) (wide : st.pulse ≠ some 0) (banks : ∀ id, (s.out.bank id).Law) (id : BankId) :
    ((s.overtake st).out.bank id).Law := by
  rcases s.overtake_cases st with ⟨_, late⟩ | ⟨_, suppressed⟩ | dropped
  · rw [late]; exact State.handOver_banks banks st wide id
  · rw [suppressed]; exact banks id
  · rw [dropped]; exact banks id

theorem State.overtakeAll_banks (sts : List Step) (wide : ∀ st ∈ sts, st.pulse ≠ some 0)
    (banks : ∀ id, (s.out.bank id).Law) (id : BankId) : ((sts.foldl State.overtake s).out.bank id).Law := by
  induction sts generalizing s with
  | nil => exact banks id
  | cons st sts ih =>
    obtain ⟨first, others⟩ := List.forall_mem_cons.1 wide
    exact ih others (State.overtake_banks st first banks)

theorem State.queueTimeStep_bankLaw (amount : Int) (h : s.BankLaw) : (s.queueTimeStep amount).BankLaw := by
  obtain ⟨banks, wide⟩ := s.bankLaw_iff.1 h
  refine h.of_shrinks ?_ (s.queueTimeStep_shrinks amount)
  unfold State.queueTimeStep
  split_ifs
  · refine State.overtakeAll_banks (s := { s with steps.held := _ }) _ (fun st mem => ?_) banks
    exact wide st ((List.takeWhile_sublist _).subset mem)
  · simpa using banks
  · exact banks

theorem State.takeMark_bankLaw (m : Word32) (e hops : Octet) (h : s.BankLaw) : (s.takeMark m e hops).BankLaw := by
  rw [s.takeMark_eq]
  change (s.judgeMark _ e).BankLaw
  rcases s.judgeMark_cases (s.time.expected m hops) e with ⟨y, g, _, judged⟩ | ⟨o, _, _, _, judged⟩ | ⟨_, _, judged⟩ | ⟨_, judged⟩ <;>
    rw [judged]
  · obtain ⟨l, stepped⟩ := s.stepTime_eq (s.time.expected m hops) e y g
    rw [stepped]
    exact State.queueTimeStep_bankLaw (s := { s with time := _, events := l }) _ h
  · simpa only [State.BankLaw, State.lockOn_frame] using h
  · exact h
  · exact h

/-! ## Run changes make safe transitions of all banks (Tables 8.4 and 8.5) -/

theorem State.loseTrust_out (s : State) (c : RunCause) :
    (s.run = .armed ∧ (s.loseTrust c).run = .failsafe ∧ (s.loseTrust c).out = s.out.safeAll)
      ∨ (s.run ≠ .armed ∧ s.loseTrust c = s) := by
  unfold State.loseTrust
  split
  · exact .inl ⟨‹_›, by simp [State.enterFailsafe], by simp [State.enterFailsafe]⟩
  · exact .inr ⟨‹_›, rfl⟩

theorem State.disarm_out (s : State) (c : RunCause) :
    (s.run = .armed ∧ (s.disarm c).out = s.out.safeAll) ∨ (s.run ≠ .armed ∧ (s.disarm c).out = s.out) := by
  unfold State.disarm
  split
  · exact .inl ⟨‹_›, rfl⟩
  all_goals exact .inr ⟨by simp_all, rfl⟩

theorem State.softReset_out (s : State) : s.softReset.out = s.out.safeAll := by
  unfold State.softReset
  dsimp only
  split <;> simp

theorem State.loseTrust_bankLaw (c : RunCause) (h : s.BankLaw) : (s.loseTrust c).BankLaw := by
  refine h.of_shrinks ?_ (s.loseTrust_shrinks c)
  rcases s.loseTrust_out c with ⟨_, _, out⟩ | ⟨_, same⟩
  · rw [out]; exact s.out.safeAll_law
  · rw [same]; exact h.banks

theorem State.disarm_bankLaw (c : RunCause) (h : s.BankLaw) : (s.disarm c).BankLaw := by
  refine h.of_shrinks ?_ (by simpa using StepQueue.ShrinksTo.refl _)
  rcases s.disarm_out c with ⟨_, out⟩ | ⟨_, out⟩
  · rw [out]; exact s.out.safeAll_law
  · rw [out]; exact h.banks

theorem State.enterUnsynced_bankLaw (h : s.BankLaw) : s.enterUnsynced.BankLaw := by
  unfold State.enterUnsynced
  refine State.loseTrust_bankLaw _ (h.of_shrinks ?_ (State.flushAll_shrinks (State.report { s with time := _ } _) .sync))
  simpa using h.banks

theorem State.writeParam_bankLaw (p : Param) (value : Word32) (h : s.BankLaw) : (s.writeParam p value).BankLaw := by
  have written (id : BankId) (b : Bank) (lawful : b.Law) : ({ s with out := s.out.setBank id b } : State).BankLaw :=
    h.of_shrinks (OutputUnit.forall_bank_setBank s.out id _ Bank.Law h.banks lawful) (.refl _)
  cases p with
  | deadTime id => exact written id _ (h.banks id)
  | safePattern id =>
    refine written id _ ?_
    split
    · exact h.banks id
    · exact Bank.safeTransition_law _
  | _ => exact h

theorem State.worked_bankLaw {t : State} (w : s.Worked t) (h : s.BankLaw) : t.BankLaw := by
  cases w with
  | param p value => exact State.writeParam_bankLaw p value h
  | disarmed => exact State.disarm_bankLaw _ h
  | lineStatic id i value => exact h.withBank id fun b lawful => lawful.applyStep _ (by simp [oneLineStep])
  | lineCadence id i period onTime _ good =>
    obtain ⟨_, least, short⟩ := good
    exact h.withBank id fun b lawful => lawful.startCadence i ⟨least, short, by omega⟩
  | cancelled tag => exact h.of_shrinks h.banks (s.cancelTag_shrinks tag)
  | flushed set => exact h.of_shrinks (by simpa [State.flushBanks] using h.banks) (s.flushBanks_shrinks set)
  | softReset =>
    refine h.of_shrinks ?_ s.softReset_shrinks
    rw [s.softReset_out]
    exact s.out.safeAll_law
  | _ => exact h

theorem State.bankLaw_of_reset (out : s.out = .reset) (held : s.steps.held = []) : s.BankLaw := by
  rw [State.bankLaw_iff, out, held]
  exact ⟨OutputUnit.reset_law, by simp⟩

theorem bankLaw_controlInvariant : ControlInvariant State.BankLaw where
  congr {s t} h same := by
    injection same with _ _ steps out
    rw [State.BankLaw, out, steps]
    exact h
  fell _ _ := State.bankLaw_of_reset rfl rfl
  rose _ _ _ := State.bankLaw_of_reset rfl rfl
  restarted _ _ _ := State.bankLaw_of_reset rfl rfl
  reported _ _ _ h := h
  linkedUp _ h := h
  marked _ m e hops h := State.takeMark_bankLaw m e hops h
  sequenced _ _ _ _ h := h
  offered _ st wide h := State.offerStep_bankLaw st wide h
  disarmed _ h := State.disarm_bankLaw _ h
  worked _ _ w h := State.worked_bankLaw w h
  linkLost s h := by
    rcases s.expireLinkTimer_cases with ⟨_, idle⟩ | ⟨_, down⟩
    · rwa [idle]
    · rw [down]; exact State.loseTrust_bankLaw (s := State.report { s with link.link := _, link.linkTimer := _ } _) _ h
  markLost s h := by
    unfold State.expireMarkTimer
    split_ifs
    · split
      · exact State.enterUnsynced_bankLaw h
      all_goals exact h
    · exact h
  holdoverLost s h := by
    unfold State.expireHoldoverTimer
    split_ifs
    · split
      · exact State.enterUnsynced_bankLaw h
      all_goals exact h
    · exact h
  fellDue _ h := State.takeDue_bankLaw h
  transitioned s id h := by
    unfold State.takeTransition
    split
    · exact h.withBank id fun _ => Bank.Law.expireTransition
    · exact h
  reverted s id i h := by
    unfold State.takePulse
    split
    · exact h.withBank id fun _ lawful => lawful.expirePulse i
    · exact h
  edged s id i h := by
    unfold State.takeCadenceEdge
    split
    · exact h.withBank id fun _ lawful => lawful.takeEdge i
    · exact h
  advanced s h := by
    obtain ⟨banks, wide⟩ := s.bankLaw_iff.1 h
    refine (State.bankLaw_iff _).2 ⟨fun id => ?_, wide⟩
    rw [State.advance_out, OutputUnit.bank_tick]
    exact (banks id).tick

/-- Settles O55: each operation on a bank keeps the law of each of its lines, and no step with a pulse of width 0 is read
from a schedule, so none is held. -/
theorem everyStepKeepsTheBanks : Obligations.EveryStepKeepsTheBanks := by
  unfold Obligations.EveryStepKeepsTheBanks
  exact fun _ _ => bankLaw_controlInvariant.step fun _ _ h => h

/-! ## Outside ARMED every bank is at its safe pattern (R123) -/

theorem State.safeOutputs_iff (s : State) :
    s.SafeOutputs ↔ (s.run ≠ .armed → ∀ id, (s.out.bank id).AtSafePattern) := by
  rw [s.out.forall_bank Bank.AtSafePattern]

theorem OutputUnit.safeAll_atSafePattern (o : OutputUnit) (id : BankId) : (o.safeAll.bank id).AtSafePattern := by
  rw [OutputUnit.bank_safeAll]
  exact (o.bank id).safeTransition_atSafePattern

theorem State.safeOutputs_of_safeAll {t : State} (out : t.out = s.out.safeAll) : t.SafeOutputs := by
  rw [State.safeOutputs_iff, out]
  exact fun _ => s.out.safeAll_atSafePattern

theorem State.safeOutputs_of_armed (armed : s.run = .armed) : s.SafeOutputs := fun notArmed => absurd armed notArmed

theorem State.SafeOutputs.of_out {t : State} (h : s.SafeOutputs) (run : t.run = s.run) (out : t.out = s.out) :
    t.SafeOutputs := by
  rw [State.SafeOutputs, run, out]
  exact h

theorem State.safeOutputs_of_reset (out : s.out = .reset) : s.SafeOutputs := by
  rw [State.safeOutputs_iff, out]
  exact fun _ id => by cases id <;> exact Bank.reset_atSafePattern

/-- Outside ARMED no step reaches a bank: it is queued or suppressed. -/
theorem State.offerStep_out (st : Step) (notArmed : s.run ≠ .armed) : (s.offerStep st).out = s.out := by
  rcases s.offerStep_cases st with ⟨_, _, rejected⟩ | ⟨_, accepted⟩
  · rw [rejected]; rfl
  · rw [accepted, State.acceptStep]
    dsimp only
    split_ifs
    all_goals rfl

theorem State.takeDue_out (notArmed : s.run ≠ .armed) : s.takeDue.out = s.out := by
  rcases s.takeDue_cases with idle | ⟨st, rest, held, _, ⟨armed, _⟩ | ⟨_, suppressed⟩⟩
  · rw [idle]
  · exact absurd armed notArmed
  · rw [suppressed]; rfl

theorem State.overtakeAll_out (sts : List Step) (notArmed : s.run ≠ .armed) :
    (sts.foldl State.overtake s).out = s.out := by
  induction sts generalizing s with
  | nil => rfl
  | cons st sts ih =>
    have first : (s.overtake st).out = s.out := by
      rcases s.overtake_cases st with ⟨armed, _⟩ | ⟨_, suppressed⟩ | dropped
      · exact absurd armed notArmed
      · rw [suppressed]; rfl
      · rw [dropped]; rfl
    exact (ih (by simpa using notArmed)).trans first

theorem State.queueTimeStep_out (amount : Int) (notArmed : s.run ≠ .armed) : (s.queueTimeStep amount).out = s.out := by
  unfold State.queueTimeStep
  split_ifs
  · exact State.overtakeAll_out (s := { s with steps.held := _ }) _ notArmed
  · simp
  · rfl

theorem State.takeMark_out (m : Word32) (e hops : Octet) (notArmed : s.run ≠ .armed) :
    (s.takeMark m e hops).out = s.out := by
  rw [s.takeMark_eq]
  change (s.judgeMark _ e).out = s.out
  rcases s.judgeMark_cases (s.time.expected m hops) e with ⟨y, g, _, judged⟩ | ⟨o, _, _, _, judged⟩ | ⟨_, _, judged⟩ | ⟨_, judged⟩ <;>
    rw [judged]
  · obtain ⟨l, stepped⟩ := s.stepTime_eq (s.time.expected m hops) e y g
    rw [stepped]
    exact State.queueTimeStep_out (s := { s with time := _, events := l }) _ notArmed
  · simp

theorem State.loseTrust_safeOutputs (c : RunCause) (h : s.SafeOutputs) : (s.loseTrust c).SafeOutputs := by
  rcases s.loseTrust_out c with ⟨_, _, out⟩ | ⟨_, same⟩
  · exact State.safeOutputs_of_safeAll out
  · rwa [same]

theorem State.disarm_safeOutputs (c : RunCause) (h : s.SafeOutputs) : (s.disarm c).SafeOutputs := by
  rcases s.disarm_out c with ⟨_, out⟩ | ⟨notArmed, out⟩
  · exact State.safeOutputs_of_safeAll out
  · intro _
    rw [out]
    exact h notArmed

theorem State.enterUnsynced_safeOutputs (h : s.SafeOutputs) : s.enterUnsynced.SafeOutputs := by
  unfold State.enterUnsynced
  exact State.loseTrust_safeOutputs _ (h.of_out (by simp) (by simp))

/-- A written dead time moves no line, and a written safe pattern is reached at once outside ARMED (R126). -/
theorem State.writeParam_safeOutputs (p : Param) (value : Word32) (h : s.SafeOutputs) :
    (s.writeParam p value).SafeOutputs := by
  have written (id : BankId) (b : Bank) (safe : s.run ≠ .armed → b.AtSafePattern) :
      ({ s with out := s.out.setBank id b } : State).SafeOutputs := by
    refine (State.safeOutputs_iff _).2 fun notArmed => ?_
    exact OutputUnit.forall_bank_setBank s.out id _ Bank.AtSafePattern (s.safeOutputs_iff.1 h notArmed) (safe notArmed)
  cases p with
  | deadTime id => exact written id _ fun notArmed => s.safeOutputs_iff.1 h notArmed id
  | safePattern id =>
    refine written id _ fun notArmed => ?_
    rw [if_neg notArmed]
    exact Bank.safeTransition_atSafePattern _
  | _ => exact h

theorem State.worked_safeOutputs {t : State} (w : s.Worked t) (h : s.SafeOutputs) : t.SafeOutputs := by
  cases w with
  | param p value => exact State.writeParam_safeOutputs p value h
  | armed => exact State.safeOutputs_of_armed rfl
  | disarmed => exact State.disarm_safeOutputs _ h
  | lineStatic _ _ _ armed => exact State.safeOutputs_of_armed armed
  | lineCadence _ _ _ _ armed => exact State.safeOutputs_of_armed armed
  | flushed set => exact h.of_out (by simp [State.flushBanks]) (by simp [State.flushBanks])
  | softReset => exact State.safeOutputs_of_safeAll s.softReset_out
  | _ => exact h

/-- What leaves the run state alone, and the banks outside ARMED, keeps the outputs safe. -/
theorem State.SafeOutputs.of_idle {t : State} (h : s.SafeOutputs) (run : t.run = s.run)
    (out : s.run ≠ .armed → t.out = s.out) : t.SafeOutputs := fun notArmed => by
  rw [out (run ▸ notArmed)]
  exact h (run ▸ notArmed)

theorem safeOutputs_controlInvariant : ControlInvariant State.SafeOutputs where
  congr {s t} h same := by
    injection same with _ _ _ out run
    exact h.of_out run out
  fell _ _ := State.safeOutputs_of_reset rfl
  rose _ _ _ := State.safeOutputs_of_reset rfl
  restarted _ _ _ := State.safeOutputs_of_reset rfl
  reported _ _ _ h := h
  linkedUp _ h := h
  marked s m e hops h := h.of_idle (by simp) (State.takeMark_out m e hops)
  sequenced _ _ _ _ h := h
  offered s st _ h := h.of_idle (by simp) (State.offerStep_out st)
  disarmed _ h := State.disarm_safeOutputs _ h
  worked _ _ w h := State.worked_safeOutputs w h
  linkLost s h := by
    rcases s.expireLinkTimer_cases with ⟨_, idle⟩ | ⟨_, down⟩
    · rwa [idle]
    · rw [down]
      exact State.loseTrust_safeOutputs (s := State.report { s with link.link := _, link.linkTimer := _ } _) _ h
  markLost s h := by
    unfold State.expireMarkTimer
    split_ifs
    · split
      · exact State.enterUnsynced_safeOutputs h
      all_goals exact h
    · exact h
  holdoverLost s h := by
    unfold State.expireHoldoverTimer
    split_ifs
    · split
      · exact State.enterUnsynced_safeOutputs h
      all_goals exact h
    · exact h
  fellDue s h := h.of_idle (by simp) State.takeDue_out
  transitioned s id h := by
    unfold State.takeTransition
    split
    · refine (State.safeOutputs_iff _).2 fun notArmed => ?_
      have safe := s.safeOutputs_iff.1 h notArmed
      exact OutputUnit.forall_bank_setBank s.out id _ Bank.AtSafePattern safe (safe id).expireTransition
    · exact h
  reverted s id i h := by
    refine h.of_idle (by simp) fun notArmed => ?_
    have safe := s.safeOutputs_iff.1 h notArmed id
    simp [State.takePulse, safe.pulseDue i]
  edged s id i h := by
    refine h.of_idle (by simp) fun notArmed => ?_
    have safe := s.safeOutputs_iff.1 h notArmed id
    simp [State.takeCadenceEdge, safe.edgeDue i]
  advanced s h := by
    refine (State.safeOutputs_iff _).2 fun notArmed id => ?_
    rw [State.advance_out, OutputUnit.bank_tick]
    exact (s.safeOutputs_iff.1 h notArmed id).tick

/-- Settles O56: leaving ARMED makes safe transitions of all banks, and outside ARMED nothing but a safe transition and the
expiry of its transition moves a line. -/
theorem everyStepKeepsOutputsSafe : Obligations.EveryStepKeepsOutputsSafe := by
  unfold Obligations.EveryStepKeepsOutputsSafe
  exact fun _ _ => safeOutputs_controlInvariant.step fun _ _ h => h

end Sys2Proof.Machine
end

section
/-! SUPPORT. What classification does with the buffer of a frame: it is released, joins the Repeat Queue, or carries a reply
into the Insert Queue; the work on the frame's contents moves no buffer (R21 to R28, R41, R141 to R145). -/

namespace Sys2Proof.Machine

/-! ## The part that carries frames -/

/-- Where buffers and frames stand: the pool, the transmitter, the Last Command Record, Downstream-Out. -/
structure Carriage where
  pool : BufferPool
  tx : Transmitter
  cmd : CommandUnit
  downstream : List Sent

def State.carriage (s : State) : Carriage := ⟨s.pool, s.tx, s.cmd, s.downstream⟩

/-- A link that differs in its timeout alone, and in the value of its timer if that runs (R5). -/
def LinkReceiver.Rearmed (l l' : LinkReceiver) : Prop :=
  l' = { l with linkTimeout := l'.linkTimeout, linkTimer := l'.linkTimer } ∧ (l'.linkTimer = none ↔ l.linkTimer = none)

theorem LinkReceiver.Rearmed.refl (l : LinkReceiver) : l.Rearmed l := ⟨rfl, Iff.rfl⟩

variable {s : State}

/-- Executing a command moves no buffer and touches the link's timer and timeout alone. -/
theorem State.Worked.carriage {t : State} (w : s.Worked t) : t.carriage = s.carriage ∧ s.link.Rearmed t.link := by
  cases w with
  | param p value =>
    cases p with
    | linkTimeout => exact ⟨rfl, rfl, rearm_eq_none _ _⟩
    | _ => exact ⟨rfl, .refl _⟩
  | disarmed => exact ⟨by simp [State.carriage], by simpa using .refl _⟩
  | flushed => exact ⟨by simp [State.carriage, State.flushBanks], by simpa [State.flushBanks] using .refl _⟩
  | softReset => exact ⟨by simp [State.carriage], by simpa using .refl _⟩
  | _ => exact ⟨rfl, .refl _⟩

theorem State.applyUnit_carriage (s : State) (unit : Option Octet) :
    (s.applyUnit unit).carriage = s.carriage ∧ (s.applyUnit unit).link = s.link := by
  cases unit <;> exact ⟨rfl, rfl⟩

theorem executePayload_carriage (s : State) (payload : List Octet) :
    (executePayload s payload).state.carriage = s.carriage ∧ s.link.Rearmed (executePayload s payload).state.link := by
  have ⟨carriage, link⟩ := (executePayload_worked s payload).carriage
  obtain ⟨carriage', link'⟩ := State.applyUnit_carriage (executePayload s payload).state (executePayload s payload).newUnit
  exact ⟨carriage'.symm.trans carriage, link' ▸ link⟩

theorem State.offerMark_carriage (s : State) (e : AddrEntry) (f : Frame) :
    (s.offerMark e f).carriage = s.carriage ∧ (s.offerMark e f).link = s.link := by
  unfold State.offerMark
  split <;> simp [State.carriage]

theorem State.offerScheduleFrame_carriage (s : State) (i : Fin 9) (f : Frame) :
    (s.offerScheduleFrame i f).carriage = s.carriage ∧ (s.offerScheduleFrame i f).link = s.link := by
  unfold State.offerScheduleFrame
  split <;> simp [State.carriage]

theorem State.offerManyCommand_carriage (s : State) (i : Fin 9) (f : Frame) :
    (s.offerManyCommand i f).carriage = s.carriage ∧ (s.offerManyCommand i f).link = s.link := by
  unfold State.offerManyCommand
  split_ifs <;> simp [State.carriage, State.reportUnexpected]

/-! ## Replies fit a frame (R7, R145) -/

theorem octets_length_flatMap {α : Type} (g : α → List Octet) (n : Nat) (each : ∀ a, (g a).length = n) (l : List α) :
    (l.flatMap g).length = n * l.length := by
  induction l with
  | nil => rfl
  | cons a l ih => rw [List.flatMap_cons, List.length_append, ih, each, List.length_cons, Nat.mul_succ, Nat.add_comm]

theorem EventRecord.octets_length (r : EventRecord) : r.octets.length = 17 := rfl

theorem Step.octets_length (position : Nat) (st : Step) : (st.octets position).length = 13 := rfl

theorem Bank.statusOctets_length (b : Bank) : b.statusOctets.length = 3 := by
  unfold Bank.statusOctets
  split <;> rfl

theorem AddrEntry.replyOctets_length (index : Octet) (e : AddrEntry) : (e.replyOctets index).length = 5 := rfl

theorem State.statusPage0_length (s : State) : s.statusPage0.length = 35 := by
  simp [State.statusPage0, Bank.statusOctets_length]

theorem peekOctets_length (held : List Step) (start count : Nat) : (peekOctets held start count).length ≤ 13 * count := by
  have each (p : Step × Nat) : (p.1.octets p.2).length = 13 := Step.octets_length p.2 p.1
  have all := octets_length_flatMap (fun p : Step × Nat => p.1.octets p.2) 13 each (((held.drop start).take count).zipIdx start)
  simp only [List.length_zipIdx, List.length_take] at all
  have counted : (peekOctets held start count).length = 13 * min count (held.drop start).length := all
  omega

theorem runAddrSet_data (s : State) (params : List Octet) : (runAddrSet s params).data.length ≤ 5 := by
  unfold runAddrSet
  split
  · split
    · simp [Executed.refused]
    · dsimp only
      split_ifs <;> exact le_rfl
  all_goals simp [Executed.refused]

theorem runLineSet_data (s : State) (params : List Octet) : (runLineSet s params).data.length ≤ 2 := by
  have bank (id : BankId) (f : Bank → Bank) : (lineSetBank s id f).data.length ≤ 2 := by
    unfold lineSetBank
    split <;> simp [Executed.done, Executed.refused]
  unfold runLineSet
  split
  · dsimp only
    split
    · split
      · simp [Executed.refused]
      · split
        · exact bank _ _
        · simp [Executed.refused]
    · split
      · split
        · simp [Executed.refused]
        · split
          · exact bank _ _
          · simp [Executed.refused]
      · simp [Executed.refused]
  all_goals simp [Executed.refused]

theorem runEventFetch_data (s : State) (params : List Octet) : (runEventFetch s params).data.length ≤ 71 := by
  unfold runEventFetch
  split
  · split
    next good =>
      simp only [Executed.done, EventList.fetchable, List.length_append, octets16_length, List.length_singleton,
        octets_length_flatMap _ 17 EventRecord.octets_length, List.length_take]
      omega
    next => simp [Executed.refused]
  all_goals simp [Executed.refused]

theorem runQueuePeek_data (s : State) (params : List Octet) : (runQueuePeek s params).data.length ≤ 80 := by
  unfold runQueuePeek
  split
  next start count =>
    split
    next good =>
      have := peekOctets_length s.steps.held start.toNat count.toNat
      simp only [Executed.done, List.length_append, List.length_cons, List.length_nil]
      omega
    next => simp [Executed.refused]
  all_goals simp [Executed.refused]

theorem runStatus_data (s : State) (params : List Octet) : (runStatus s params).data.length ≤ 41 := by
  unfold runStatus
  split
  · split_ifs
    · simp [Executed.done, State.statusPage0_length]
    · simp [Executed.done, State.statusPage1]
    · simp [Executed.done, State.statusPage2]
    · simp [Executed.refused]
  all_goals simp [Executed.refused]

theorem runConfigSet_data (s : State) (params : List Octet) : (runConfigSet s params).data.length ≤ 5 := by
  unfold runConfigSet
  split
  · dsimp only
    split
    · simp [Executed.refused]
    · split <;> simp [Executed.done, Executed.refused]
  all_goals simp [Executed.refused]

/-- The data of a reply leave room for the four octets before them. -/
theorem runCommand_data (s : State) (c : CommandCode) (params : List Octet) : (runCommand c s params).data.length ≤ 92 := by
  cases c <;> simp only [runCommand]
  case status => exact (runStatus_data s params).trans (by decide)
  case addrSet => exact (runAddrSet_data s params).trans (by decide)
  case lineSet => exact (runLineSet_data s params).trans (by decide)
  case queuePeek => exact (runQueuePeek_data s params).trans (by decide)
  case eventFetch => exact (runEventFetch_data s params).trans (by decide)
  case configSet => exact (runConfigSet_data s params).trans (by decide)
  case ident => unfold runIdent; split <;> simp [Executed.done, Executed.refused]
  case addrGet => unfold runAddrGet; (repeat split) <;> simp [Executed.done, Executed.refused, AddrEntry.replyOctets_length]
  case configGet => unfold runConfigGet; (repeat split) <;> simp [Executed.done, Executed.refused]
  case arm =>
    unfold runArm
    split
    · split_ifs <;> simp [Executed.done, Executed.refused]
    · simp [Executed.refused]
  case disarm => unfold runDisarm; split <;> simp [Executed.done, Executed.refused]
  case cancel => unfold runCancel; split <;> simp [Executed.done, Executed.refused]
  case flush => unfold runFlush; (repeat split) <;> simp [Executed.done, Executed.refused]
  case eventAck => unfold runEventAck; dsimp only; (repeat split) <;> simp [Executed.done, Executed.refused]
  case resetSoft => unfold runResetSoft; split <;> simp [Executed.done, Executed.refused]
  case resetFull => unfold runResetFull; split <;> simp [Executed.done, Executed.refused]

theorem executePayload_data (s : State) (payload : List Octet) : (executePayload s payload).data.length ≤ 92 := by
  unfold executePayload
  split
  · simp [Executed.refused]
  · split
    · simp [Executed.refused]
    · exact runCommand_data s _ _

theorem executePayload_reply (s : State) (payload : List Octet) (code : Octet) :
    ((executePayload s payload).reply code).length ≤ 96 := by
  have := executePayload_data s payload
  simp only [Executed.reply, List.length_append, List.length_cons, List.length_nil]
  omega

/-! ## Classification -/

/-- What classification keeps, from the state with a buffer in hand to the one in which it has found its place: a law of
the carriage that holds after a release, after a repetition and after a reply has joined the Insert Queue. -/
theorem State.classify_carries {P Q : State → Prop} (b : Buffer)
    (before : ∀ {s t : State}, P s → t.carriage = s.carriage → P t)
    (after : ∀ {s t : State}, Q s → t.carriage = s.carriage → Q t)
    (released : ∀ s : State, P s → Q s.release) (repeated : ∀ s : State, P s → Q (s.repeatFrame b))
    (recorded : ∀ (s : State) (l : LastCommand) (pending : Bool), l.payload.length ≤ 96 → P s →
      P { s with cmd := { last := some l, resetPending := pending } })
    (answered : ∀ (s : State) (payload : List Octet) (reset : Bool), s.tx.insertSide < Config.insertLimit →
      (∃ l ∈ s.cmd.last, l.payload = payload) → P s → Q (s.joinInsert (b.replyBuffer payload reset)))
    (h : P s) : Q (s.classify b) := by
  have executed (t : State) (room : t.tx.insertSide < Config.insertLimit) (h : P t) : Q (t.executeCommand b) := by
    obtain ⟨carriage, _⟩ := executePayload_carriage t b.frame.payload
    have worked : P (executePayload t b.frame.payload).state := before h carriage
    have tx : (executePayload t b.frame.payload).state.tx = t.tx := congrArg Carriage.tx carriage
    have stillRoom : (executePayload t b.frame.payload).state.tx.insertSide < Config.insertLimit := by rwa [tx]
    unfold State.executeCommand
    dsimp only
    refine after ?_ (State.applyUnit_carriage _ _).1
    exact answered _ _ _ stillRoom ⟨_, rfl, rfl⟩
      (recorded _ ⟨_, _, (executePayload t b.frame.payload).reply b.frame.codeOctet⟩ _ (executePayload_reply _ _ _) worked)
  have dropped (t : State) (r : DropReason) (h : P t) : Q (t.dropCommand b.frame r) :=
    after (released t h) rfl
  have commanded (t : State) (h : P t) : Q (t.takeCommand b) := by
    unfold State.takeCommand
    split
    · exact dropped _ _ h
    · split
      next payload duplicate =>
        split
        next room =>
          refine answered _ _ _ room ?_ h
          unfold CommandUnit.duplicate at duplicate
          split at duplicate
          next l last =>
            split_ifs at duplicate
            exact ⟨l, last, Option.some.inj duplicate⟩
          next => cases duplicate
        next => exact dropped _ _ h
      next =>
        split
        next room => exact executed t room h
        next => exact dropped _ _ h
  have unit : Q (s.classifyUnit b) := by
    unfold State.classifyUnit
    split
    · exact released _ (before h (s.offerMark_carriage _ _).1)
    · exact released _ (before h (s.offerScheduleFrame_carriage _ _).1)
    · exact commanded _ (before h rfl)
    all_goals exact after (released s h) rfl
  have many (i : Fin 9) : Q (s.classifyMany i b) := by
    unfold State.classifyMany
    split
    · exact repeated _ (before h (s.offerMark_carriage _ _).1)
    · exact repeated _ (before h (s.offerScheduleFrame_carriage _ _).1)
    · exact repeated _ (before h (s.offerManyCommand_carriage _ _).1)
    all_goals exact repeated _ h
  unfold State.classify
  split_ifs
  · exact after (released s h) rfl
  · exact repeated _ h
  · split
    · exact repeated _ h
    · split_ifs
      · exact unit
      · exact many _

theorem State.executeCommand_link (s : State) (b : Buffer) : s.link.Rearmed (s.executeCommand b).link := by
  obtain ⟨_, link⟩ := executePayload_carriage s b.frame.payload
  unfold State.executeCommand
  dsimp only
  rw [(State.applyUnit_carriage _ _).2]
  simpa using link

theorem State.takeCommand_link (s : State) (b : Buffer) : s.link.Rearmed (s.takeCommand b).link := by
  have same {t : State} (h : t.link = s.link) : s.link.Rearmed t.link := h ▸ .refl _
  unfold State.takeCommand
  split
  · exact same (by simp)
  · split
    · split <;> exact same (by simp)
    · split
      · exact s.executeCommand_link b
      · exact same (by simp)

/-- Classification touches the link by CONFIG-SET of its timeout alone. -/
theorem State.classify_link (s : State) (b : Buffer) : s.link.Rearmed (s.classify b).link := by
  have same {t : State} (h : t.link = s.link) : s.link.Rearmed t.link := h ▸ .refl _
  have unit : s.link.Rearmed (s.classifyUnit b).link := by
    unfold State.classifyUnit
    split
    · exact same (s.offerMark_carriage _ _).2
    · exact same (s.offerScheduleFrame_carriage _ _).2
    · exact s.countConsumed.takeCommand_link b
    all_goals exact .refl _
  have many (i : Fin 9) : s.link.Rearmed (s.classifyMany i b).link := by
    unfold State.classifyMany
    split
    · exact same (by simp [s.offerMark_carriage])
    · exact same (by simp [s.offerScheduleFrame_carriage])
    · exact same (by simp [s.offerManyCommand_carriage])
    all_goals exact same (by simp)
  unfold State.classify
  split_ifs
  · exact same (by simp)
  · exact same (by simp)
  · split
    · exact same (by simp)
    · split_ifs
      · exact unit
      · exact many _

end Sys2Proof.Machine
end

section
/-! The statements about buffers at every step: the ten buffers are conserved (R10, R18, R37, R39, R40), and every CHECK sent
is right (R9, R42, R43). -/

namespace Sys2Proof.Machine

/-! ## The pool and the queues with some buffers in hand -/

/-- The law of the buffers when n of them are RECEIVING or being classified. -/
structure State.PoolLaw (s : State) (n : Nat) : Prop where
  total : s.pool.free + n + s.pool.repeatQueue.length + s.tx.insertQueue.length + s.tx.state.transmitting = 10
  side : s.tx.insertSide ≤ 3
  idle : s.tx.state.isSending = false → s.pool.repeatQueue = [] ∧ s.tx.insertQueue = []
  spent : s.tx.insertQueue = [] → s.tx.credit = 0
  credit : s.tx.credit ≤ 2
  gap : s.tx.gap ≤ 2

/-- Frames are assembled in IN-SYNC and outside BYPASS, within the octets a buffer holds (R11, R16). -/
structure State.AssemblyLaw (s : State) : Prop where
  outside : s.link.rx ≠ .inSync ∨ s.inBypass = true → s.link.assembly = .outside
  stored : s.link.assembly.stored.length ≤ 105

variable {s : State}

theorem State.bufferLaw_iff (s : State) : s.BufferLaw ↔ s.PoolLaw s.link.assembly.receiving ∧ s.AssemblyLaw :=
  ⟨fun ⟨total, side, idle, spent, credit, gap, outside, stored⟩ =>
      ⟨⟨total, side, idle, spent, credit, gap⟩, ⟨outside, stored⟩⟩,
    fun ⟨⟨total, side, idle, spent, credit, gap⟩, ⟨outside, stored⟩⟩ =>
      ⟨total, side, idle, spent, credit, gap, outside, stored⟩⟩

theorem State.PoolLaw.congr {t : State} {n : Nat} (h : s.PoolLaw n) (pool : t.pool = s.pool) (tx : t.tx = s.tx) :
    t.PoolLaw n := by
  obtain ⟨total, side, idle, spent, credit, gap⟩ := h
  exact ⟨by rwa [pool, tx], by rwa [tx], by rwa [pool, tx], by rwa [tx], by rwa [tx], by rwa [tx]⟩

theorem State.BufferLaw.congr {t : State} (h : s.BufferLaw) (pool : t.pool = s.pool) (tx : t.tx = s.tx)
    (rx : t.link.rx = s.link.rx) (assembly : t.link.assembly = s.link.assembly) : t.BufferLaw := by
  rw [State.BufferLaw, State.inBypass, pool, tx, rx, assembly]
  exact h

/-- With no frame being assembled only the pool and the queues matter. -/
theorem State.bufferLaw_of_outside (pool : s.PoolLaw 0) (outside : s.link.assembly = .outside) : s.BufferLaw := by
  refine s.bufferLaw_iff.2 ⟨?_, fun _ => outside, ?_⟩
  · rwa [outside]
  · rw [outside]; exact Nat.zero_le _

theorem State.PoolLaw.release {n : Nat} (h : s.PoolLaw (n + 1)) : s.release.PoolLaw n := by
  obtain ⟨total, side, idle, spent, credit, gap⟩ := h
  exact ⟨by simp only [State.release_pool, State.release_tx]; omega, side, idle, spent, credit, gap⟩

/-- The arbiter loses no buffer and leaves the credit by its table (R40). -/
theorem State.arbitrate_poolLaw {n : Nat}
    (total : s.pool.free + n + s.pool.repeatQueue.length + s.tx.insertQueue.length = 10)
    (side : s.tx.insertQueue.length ≤ 3) (gap : s.tx.gap ≤ 2) : s.arbitrate.PoolLaw n := by
  rcases s.arbitrate_cases with ⟨noRepeat, noInsert, h⟩ | ⟨b, rest, c, queued, h, few, spent⟩ | ⟨b, rest, queued, h⟩
  · rw [h]
    refine ⟨?_, ?_, fun _ => ⟨noRepeat, noInsert⟩, fun _ => rfl, Nat.zero_le _, gap⟩
    · simpa [TxState.transmitting] using total
    · simpa [Transmitter.insertSide, TxState.fromInsert] using side
  · rw [h]
    rw [queued, List.length_cons] at total
    refine ⟨?_, side, by simp [TxState.isSending], spent, few, gap⟩
    simp only [State.takeRepeat_pool, State.takeRepeat_tx, TxState.transmitting]
    omega
  · rw [h]
    rw [queued, List.length_cons] at total side
    refine ⟨?_, side, by simp [TxState.isSending], fun _ => rfl, Nat.zero_le _, gap⟩
    simp only [State.takeInsert_pool, State.takeInsert_tx, TxState.transmitting]
    omega

theorem TxState.sending_of_busy {s : State} (running : s.inBypass = false) (busy : s.tx.state ≠ .idleFill) :
    s.tx.state.isSending = true ∧ s.tx.state.transmitting = 1 := by
  unfold State.inBypass at running
  cases state : s.tx.state <;> simp_all [TxState.isSending, TxState.transmitting]

theorem State.PoolLaw.joinRepeat {n : Nat} (h : s.PoolLaw (n + 1)) (running : s.inBypass = false) (b : Buffer) :
    (s.joinRepeat b).PoolLaw n := by
  obtain ⟨total, side, idle, spent, credit, gap⟩ := h
  rcases s.joinRepeat_cases b with ⟨filling, join⟩ | ⟨busy, join⟩ <;> rw [join]
  · obtain ⟨noRepeat, noInsert⟩ := idle (by simp [filling, TxState.isSending])
    refine State.arbitrate_poolLaw ?_ (by simp [noInsert]) gap
    simp only [noRepeat, noInsert, filling, TxState.transmitting, List.nil_append, List.length_singleton,
      List.length_nil] at total ⊢
    omega
  · obtain ⟨sending, _⟩ := TxState.sending_of_busy running busy
    refine ⟨?_, side, fun still => absurd sending (by simp [still]), spent, credit, gap⟩
    simp only [List.length_append, List.length_singleton]
    omega

theorem State.PoolLaw.joinInsert {n : Nat} (h : s.PoolLaw (n + 1)) (running : s.inBypass = false) (b : Buffer)
    (room : s.tx.insertSide < Config.insertLimit) : (s.joinInsert b).PoolLaw n := by
  obtain ⟨total, _, idle, spent, credit, gap⟩ := h
  have side : s.tx.insertQueue.length + s.tx.state.fromInsert < 3 := room
  rcases s.joinInsert_cases b with ⟨filling, join⟩ | ⟨busy, join⟩ <;> rw [join]
  · obtain ⟨noRepeat, noInsert⟩ := idle (by simp [filling, TxState.isSending])
    refine State.arbitrate_poolLaw ?_ (by simp [noInsert]) gap
    simp only [noRepeat, noInsert, filling, TxState.transmitting, List.nil_append, List.length_singleton,
      List.length_nil] at total ⊢
    omega
  · obtain ⟨sending, _⟩ := TxState.sending_of_busy running busy
    refine ⟨?_, ?_, fun still => absurd sending (by simp [still]), by simp, credit, gap⟩
    · simp only [List.length_append, List.length_singleton]
      omega
    · simp only [Transmitter.insertSide, List.length_append, List.length_singleton]
      omega

theorem State.PoolLaw.repeatFrame {n : Nat} (h : s.PoolLaw (n + 1)) (running : s.inBypass = false) (b : Buffer) :
    (s.repeatFrame b).PoolLaw n := by
  rcases s.repeatFrame_cases b with ⟨_, expired⟩ | ⟨_, joined⟩
  · rw [expired]; exact h.release.congr rfl rfl
  · have counted : ({ s with rx.framesRepeated := s.rx.framesRepeated + 1 } : State).PoolLaw (n + 1) := h.congr rfl rfl
    rw [joined]
    exact counted.joinRepeat running _

/-- Classification finds a place for the buffer in hand. -/
theorem State.PoolLaw.classify {n : Nat} (h : s.PoolLaw (n + 1)) (running : s.inBypass = false) (b : Buffer) :
    (s.classify b).PoolLaw n := by
  have parts {t u : State} (same : u.carriage = t.carriage) : u.pool = t.pool ∧ u.tx = t.tx :=
    ⟨congrArg Carriage.pool same, congrArg Carriage.tx same⟩
  refine State.classify_carries (P := fun t => t.PoolLaw (n + 1) ∧ t.inBypass = false) (Q := fun t => t.PoolLaw n) b
    ?_ ?_ ?_ ?_ ?_ ?_ ⟨h, running⟩
  · rintro t u ⟨law, out⟩ same
    obtain ⟨pool, tx⟩ := parts same
    exact ⟨law.congr pool tx, by rwa [State.inBypass, tx]⟩
  · intro t u law same
    exact law.congr (parts same).1 (parts same).2
  · exact fun t ⟨law, _⟩ => law.release
  · exact fun t ⟨law, out⟩ => law.repeatFrame out b
  · exact fun t _ _ _ ⟨law, out⟩ => ⟨law.congr rfl rfl, out⟩
  · exact fun t _ _ room _ ⟨law, out⟩ => law.joinInsert out _ room

/-! ## Symbols (R10 to R16) -/

theorem State.BufferLaw.pool (h : s.BufferLaw) {a : Assembly} {n : Nat} (assembly : s.link.assembly = a)
    (count : a.receiving = n) : s.PoolLaw n := by
  subst count assembly
  exact (s.bufferLaw_iff.1 h).1

/-- The law after the assembly changed between conditions that hold no buffer. -/
theorem State.BufferLaw.assembly {t : State} {n : Nat} (h : s.PoolLaw n) (count : t.link.assembly.receiving = n)
    (pool : t.pool = s.pool) (tx : t.tx = s.tx) (rx : t.link.rx = .inSync) (running : t.inBypass = false)
    (stored : t.link.assembly.stored.length ≤ 105) : t.BufferLaw := by
  refine t.bufferLaw_iff.2 ⟨count ▸ h.congr pool tx, ⟨?_, stored⟩⟩
  rintro (out | bypass)
  · exact absurd rx out
  · exact absurd bypass (by simp [running])

theorem State.dropAssembly_bufferLaw (e : FrameFault) {a : Assembly} (empty : a = .outside ∨ a = .skipping)
    (pool : s.PoolLaw 1) (rx : s.link.rx = .inSync) (running : s.inBypass = false) : (s.dropAssembly e a).BufferLaw := by
  rcases empty with rfl | rfl
  · exact State.BufferLaw.assembly (s := s.release) pool.release rfl rfl rfl rx running (Nat.zero_le _)
  · exact State.BufferLaw.assembly (s := s.release) pool.release rfl rfl rfl rx running (Nat.zero_le _)

theorem State.claim_bufferLaw (pool : s.PoolLaw 0) (rx : s.link.rx = .inSync) (running : s.inBypass = false) :
    s.claim.BufferLaw := by
  unfold State.claim
  split
  next free =>
    obtain ⟨total, side, idle, spent, credit, gap⟩ := pool
    refine State.BufferLaw.assembly (s := { s with pool.free := s.pool.free - 1 }) ⟨?_, side, idle, spent, credit, gap⟩
      rfl rfl rfl rx running (Nat.zero_le _)
    simp only [Assembly.receiving]
    omega
  next => exact State.BufferLaw.assembly (s := s) pool rfl rfl rfl rx running (Nat.zero_le _)

theorem State.endFrame_bufferLaw (octets : List Octet) (pool : s.PoolLaw 1) (rx : s.link.rx = .inSync)
    (running : s.inBypass = false) : (s.endFrame octets).BufferLaw := by
  rcases s.endFrame_cases octets with length | check | ⟨b, _, _, _, good⟩
  · rw [length]; exact State.dropAssembly_bufferLaw _ (.inl rfl) pool rx running
  · rw [check]; exact State.dropAssembly_bufferLaw _ (.inl rfl) pool rx running
  · rw [good]
    have placed := State.PoolLaw.classify (s := { s with link.assembly := .outside, rx.framesGood := s.rx.framesGood + 1 })
      (pool.congr rfl rfl) running b
    refine State.bufferLaw_of_outside placed ?_
    obtain ⟨link, _⟩ := State.classify_link
      { s with link.assembly := .outside, rx.framesGood := s.rx.framesGood + 1 } b
    rw [link]

theorem State.assemble_bufferLaw (sym : Symbol) (h : s.BufferLaw) (rx : s.link.rx = .inSync)
    (running : s.inBypass = false) : (s.assemble sym).BufferLaw := by
  have ⟨_, ⟨_, stored⟩⟩ := s.bufferLaw_iff.1 h
  unfold State.assemble
  split
  case h_1 assembly => exact State.BufferLaw.assembly (s := s) (h.pool assembly rfl) rfl rfl rfl rx running (Nat.zero_le _)
  case h_2 assembly => exact State.claim_bufferLaw (h.pool assembly rfl) rx running
  case h_3 assembly => exact State.claim_bufferLaw (h.pool assembly rfl) rx running
  case h_4 octets assembling =>
    split
    next room =>
      refine State.BufferLaw.assembly (s := s) (h.pool assembling rfl) rfl rfl rfl rx running ?_
      simp only [Assembly.stored, List.length_append, List.length_singleton]
      exact room
    next => exact State.dropAssembly_bufferLaw _ (.inr rfl) (h.pool assembling rfl) rx running
  case h_5 octets assembling => exact State.endFrame_bufferLaw octets (h.pool assembling rfl) rx running
  case h_6 assembly => exact State.BufferLaw.assembly (s := s) (h.pool assembly rfl) rfl rfl rfl rx running (Nat.zero_le _)
  case h_7 assembly => exact State.dropAssembly_bufferLaw _ (.inl rfl) (h.pool assembly rfl) rx running
  case h_8 assembly => exact State.BufferLaw.assembly (s := s) (h.pool assembly rfl) rfl rfl rfl rx running (Nat.zero_le _)
  case h_9 assembly => exact State.dropAssembly_bufferLaw _ (.inr rfl) (h.pool assembly rfl) rx running
  all_goals exact h

theorem State.assembleUnlessBypass_bufferLaw (sym : Symbol) (h : s.BufferLaw) (rx : s.link.rx = .inSync) :
    (s.assembleUnlessBypass sym).BufferLaw := by
  unfold State.assembleUnlessBypass
  split
  · exact h
  next running => exact State.assemble_bufferLaw sym h rx (by simpa using running)

/-- An invalid symbol leaves no frame being assembled (R15). -/
theorem State.assembleUnlessBypass_invalid (h : s.AssemblyLaw) :
    (s.assembleUnlessBypass .invalid).link.assembly.receiving = 0 := by
  unfold State.assembleUnlessBypass
  split
  next bypass => rw [h.outside (.inr bypass)]; rfl
  next =>
    cases assembly : s.link.assembly <;> simp [State.assemble, assembly, Assembly.receiving]

theorem State.countInvalid_bufferLaw (h : s.BufferLaw) (empty : s.link.assembly.receiving = 0) :
    s.countInvalid.BufferLaw := by
  unfold State.countInvalid
  split
  · exact h.congr rfl rfl rfl rfl
  · have pool : s.PoolLaw 0 := h.pool rfl empty
    exact State.bufferLaw_of_outside (pool.congr rfl rfl) rfl

theorem State.trackBracket_link (s : State) (sym : Symbol) :
    (s.trackBracket sym).link.rx = s.link.rx ∧ (s.trackBracket sym).link.assembly = s.link.assembly := by
  cases sym <;> exact ⟨rfl, rfl⟩

theorem State.inSyncSymbol_bufferLaw (sym : Symbol) (h : s.BufferLaw) (rx : s.link.rx = .inSync) :
    (s.inSyncSymbol sym).BufferLaw := by
  unfold State.inSyncSymbol
  split
  next invalid =>
    subst invalid
    exact State.countInvalid_bufferLaw (State.assembleUnlessBypass_bufferLaw _ h rx)
      (State.assembleUnlessBypass_invalid (s.bufferLaw_iff.1 h).2)
  next =>
    obtain ⟨rxKept, assemblyKept⟩ := s.countValid.trackBracket_link sym
    exact State.assembleUnlessBypass_bufferLaw sym (h.congr (by simp) (by simp) rxKept assemblyKept) (rxKept.trans rx)

theorem State.enterInSync_assembly (s : State) : s.enterInSync.link.assembly = .outside := by
  unfold State.enterInSync
  dsimp only
  split <;> rfl

/-- Hunting holds no buffer before or after. -/
theorem State.hunt_bufferLaw (sym : Symbol) (pool : s.PoolLaw 0) (outside : s.link.assembly = .outside) :
    (s.hunt sym).BufferLaw := by
  rcases s.hunt_cases sym with ⟨_, _, counted⟩ | ⟨_, _, entered⟩ | ⟨_, cleared⟩
  · rw [counted]; exact State.bufferLaw_of_outside (pool.congr rfl rfl) outside
  · rw [entered]; exact State.bufferLaw_of_outside (pool.congr (by simp) (by simp)) s.enterInSync_assembly
  · rw [cleared]; exact State.bufferLaw_of_outside (pool.congr rfl rfl) outside

theorem State.leaveBypass_bufferLaw (h : s.BufferLaw) : s.leaveBypass.BufferLaw := by
  unfold State.leaveBypass
  split
  next may =>
    have bypass : s.inBypass = true := by simp [State.mayLeaveBypass] at may; exact may.1.1.2
    have state : s.tx.state = .bypass := by
      unfold State.inBypass at bypass
      cases state : s.tx.state <;> simp_all
    obtain ⟨⟨total, side, idle, spent, credit, gap⟩, ⟨outside, _⟩⟩ := s.bufferLaw_iff.1 h
    have empty := outside (.inr bypass)
    refine State.bufferLaw_of_outside ⟨?_, ?_, fun _ => idle (by simp [state, TxState.isSending]), spent, credit,
      Nat.zero_le _⟩ empty
    · simpa [state, empty, TxState.transmitting, Assembly.receiving] using total
    · simpa [state, Transmitter.insertSide, TxState.fromInsert] using side
  next => exact h

theorem State.receive_bufferLaw (sym : Symbol) (h : s.BufferLaw) : (s.receive sym).BufferLaw := by
  unfold State.receive
  split
  · have left := State.leaveBypass_bufferLaw h
    have heard : ((s.leaveBypass.heard).mirror sym).BufferLaw := left.congr (by simp) (by simp) (by simp) (by simp)
    generalize (s.leaveBypass.heard).mirror sym = u at heard
    have hunting (out : u.link.rx ≠ .inSync) : u.PoolLaw 0 ∧ u.link.assembly = .outside := by
      obtain ⟨_, ⟨outside, _⟩⟩ := u.bufferLaw_iff.1 heard
      exact ⟨heard.pool (outside (.inl out)) rfl, outside (.inl out)⟩
    unfold State.receiverTakes
    split
    next rx =>
      obtain ⟨pool, outside⟩ := hunting (by simp [rx])
      exact State.hunt_bufferLaw (s := { u with link.rx := .hunting, link.idleRun := 0 }) sym (pool.congr rfl rfl) outside
    next rx =>
      obtain ⟨pool, outside⟩ := hunting (by simp [rx])
      exact State.hunt_bufferLaw sym pool outside
    next rx => exact State.inSyncSymbol_bufferLaw sym heard rx
  · exact h.congr (by simp) (by simp) (by simp) (by simp)

/-! ## Expiries and the transmitter (R2, R38, R44) -/

theorem State.loseActivity_bufferLaw (h : s.BufferLaw) : s.loseActivity.BufferLaw := by
  unfold State.loseActivity
  dsimp only
  split
  · split
    · exact h
    next rx =>
      have outside := (s.bufferLaw_iff.1 h).2.outside (.inl (by simp [rx]))
      have pool : s.PoolLaw 0 := h.pool outside rfl
      exact State.bufferLaw_of_outside (pool.congr rfl rfl) rfl
    next rx =>
      split
      next assembly =>
        have pool : s.PoolLaw 1 := h.pool assembly rfl
        exact State.bufferLaw_of_outside (pool.release.congr rfl rfl) rfl
      next assembly =>
        have pool : s.PoolLaw 0 := h.pool assembly rfl
        exact State.bufferLaw_of_outside (pool.congr rfl rfl) rfl
      next assembly =>
        have pool : s.PoolLaw 0 := h.pool assembly rfl
        exact State.bufferLaw_of_outside (pool.congr rfl rfl) rfl
  · exact h

theorem State.loseTrust_bufferLaw (c : RunCause) (h : s.BufferLaw) : (s.loseTrust c).BufferLaw :=
  h.congr (by simp) (by simp) (by simp) (by simp)

theorem State.takeExpiry_bufferLaw (e : Expiry) (h : s.BufferLaw) : (s.takeExpiry e).BufferLaw := by
  cases e with
  | startUp =>
    simp only [State.takeExpiry, State.completeStartUp]
    split <;> exact h
  | silence => exact State.loseActivity_bufferLaw h
  | link =>
    rcases s.expireLinkTimer_cases with ⟨_, idle⟩ | ⟨_, down⟩
    · simpa only [State.takeExpiry, idle] using h
    · rw [State.takeExpiry, down]
      exact State.loseTrust_bufferLaw (s := State.report { s with link.link := _, link.linkTimer := _ } _) _ h
  | mark | holdover | due | deadTime | pulse | cadence =>
    exact h.congr (by simp [State.takeExpiry]) (by simp [State.takeExpiry]) (by simp [State.takeExpiry])
      (by simp [State.takeExpiry])

theorem raiseGap_le (gap : Nat) : raiseGap gap ≤ 2 := Nat.min_le_right _ _

theorem State.sendIdle_bufferLaw (h : s.BufferLaw) : s.sendIdle.BufferLaw := by
  have left := State.leaveBypass_bufferLaw h
  unfold State.sendIdle
  dsimp only
  generalize s.leaveBypass = u at left
  obtain ⟨total, side, idle, spent, credit, gap, outside, stored⟩ := left
  split
  · exact ⟨total, side, idle, spent, credit, gap, outside, stored⟩
  · exact ⟨total, side, idle, spent, credit, raiseGap_le _, outside, stored⟩
  · split
    · exact ⟨total, side, idle, spent, credit, raiseGap_le _, outside, stored⟩
    · exact ⟨total, side, idle, spent, credit, gap, outside, stored⟩

theorem State.reset_bufferLaw {t : State} (pool : t.pool = .reset) (tx : t.tx = .reset)
    (assembly : t.link.assembly = .outside) : t.BufferLaw := by
  refine State.bufferLaw_of_outside ?_ assembly
  constructor <;> rw [tx]
  case total => rw [pool]; rfl
  case idle => rw [pool]; exact fun _ => ⟨rfl, rfl⟩
  all_goals decide

theorem State.finishFrame_parts (s : State) (b : Buffer) (tag : Tag) :
    (s.finishFrame b tag).pool = { s.pool with free := s.pool.free + 1 }
      ∧ (s.finishFrame b tag).tx.insertQueue = s.tx.insertQueue ∧ (s.finishFrame b tag).tx.gap = 0 := by
  unfold State.finishFrame
  cases tag <;> exact ⟨rfl, rfl, rfl⟩

theorem State.arbitrate_inBypass (s : State) : s.arbitrate.inBypass = false := by
  rcases s.arbitrate_cases with ⟨_, _, h⟩ | ⟨_, _, _, _, h, _⟩ | ⟨_, _, _, h⟩ <;> rw [h] <;> rfl

theorem State.completeTransmission_bufferLaw (straps : BitVec 6) (h : s.BufferLaw) :
    (s.completeTransmission straps).BufferLaw := by
  unfold State.completeTransmission
  split
  · exact h
  · exact h
  next b tag state =>
    dsimp only
    split
    · exact State.reset_bufferLaw rfl rfl rfl
    · obtain ⟨⟨total, side, _, _, _, _⟩, ⟨outside, stored⟩⟩ := s.bufferLaw_iff.1 h
      obtain ⟨pool, insert, gap⟩ := s.finishFrame_parts b tag
      have link : (s.finishFrame b tag).arbitrate.link = s.link := by simp
      refine (State.bufferLaw_iff _).2 ⟨State.arbitrate_poolLaw ?_ ?_ (gap ▸ Nat.zero_le _), ?_, link ▸ stored⟩
      · rw [link, pool, insert]
        simp only [state, TxState.transmitting] at total
        dsimp only
        omega
      · rw [insert]
        exact (Nat.le_add_right _ _).trans side
      · rw [link, State.arbitrate_inBypass]
        rintro (rx | bypass)
        · exact outside (.inl rx)
        · cases bypass

/-- Every command keeps the law of the buffers. -/
theorem exec_bufferLaw (c : Instr) (s t : State) (h : s.BufferLaw) (run : exec c s = .next t) : t.BufferLaw := by
  refine exec_keeps (P := State.BufferLaw) ?_ ?_ ?_ ?_ ?_ ?_ ?_ ?_ ?_ c s t h run
  · exact fun _ _ => State.reset_bufferLaw rfl rfl rfl
  · exact fun _ _ _ => State.reset_bufferLaw rfl rfl rfl
  · exact fun _ _ h => h
  · exact fun _ e => State.takeExpiry_bufferLaw e
  · exact fun _ => State.leaveBypass_bufferLaw
  · exact fun _ h => h.congr rfl rfl rfl rfl
  · exact fun _ sym => State.receive_bufferLaw sym
  · exact fun _ => State.sendIdle_bufferLaw
  · exact fun _ straps => State.completeTransmission_bufferLaw straps

/-- Settles O49: a buffer is claimed by assembly, is in hand while its frame is classified, and leaves the hand by a release or
a join; the arbiter and a completion lose none. -/
theorem everyStepConservesBuffers : Obligations.EveryStepConservesBuffers := by
  unfold Obligations.EveryStepConservesBuffers
  exact step_keeps (P := State.BufferLaw) (fun _ _ h => h) exec_bufferLaw

end Sys2Proof.Machine
end

section
/-! The statements about CHECKs and about the link at every step (R9, R42, R43; R2 to R5, R16). -/

namespace Sys2Proof.Machine

variable {s : State}

/-! ## CHECKs (R9, R42, R43) -/

theorem State.CheckLaw.congr {t : State} (h : s.CheckLaw) (same : t.carriage = s.carriage) : t.CheckLaw := by
  injection same with pool tx cmd downstream
  rw [State.CheckLaw, pool, tx, cmd, downstream]
  exact h

/-- The arbiter takes a sound buffer and computes its CHECK where the mark is clear (R42). -/
theorem State.CheckLaw.arbitrate (h : s.CheckLaw) : s.arbitrate.CheckLaw := by
  obtain ⟨repeats, inserts, sending, recorded, sent⟩ := h
  have taken {b : Buffer} (sound : b.Sound) (tag : Tag) :
      ∀ c ∈ (TxState.sending b.ready tag).buffer, c.Sound ∧ c.checkCurrent = true := by
    rintro _ ⟨⟩
    exact ⟨sound.ready, b.ready_checkCurrent⟩
  rcases s.arbitrate_cases with ⟨_, _, h⟩ | ⟨b, rest, c, queued, h, _⟩ | ⟨b, rest, queued, h⟩ <;> rw [h]
  · exact ⟨repeats, inserts, by simp [TxState.buffer], recorded, sent⟩
  · obtain ⟨first, others⟩ := List.forall_mem_cons.1 (queued ▸ repeats)
    exact ⟨others, inserts, taken first.1 _, recorded, sent⟩
  · obtain ⟨first, others⟩ := List.forall_mem_cons.1 (queued ▸ inserts)
    exact ⟨repeats, others, taken first _, recorded, sent⟩

theorem State.CheckLaw.joinRepeat (h : s.CheckLaw) {b : Buffer} (sound : b.Sound ∧ b.checkCurrent = true) :
    (s.joinRepeat b).CheckLaw := by
  obtain ⟨repeats, inserts, sending, recorded, sent⟩ := h
  have joined : ({ s with pool.repeatQueue := s.pool.repeatQueue ++ [b] } : State).CheckLaw := by
    refine ⟨fun c mem => ?_, inserts, sending, recorded, sent⟩
    rcases List.mem_append.1 mem with old | new
    · exact repeats c old
    · exact List.mem_singleton.1 new ▸ sound
  rcases s.joinRepeat_cases b with ⟨_, h⟩ | ⟨_, h⟩ <;> rw [h]
  · exact joined.arbitrate
  · exact joined

theorem State.CheckLaw.joinInsert (h : s.CheckLaw) {b : Buffer} (sound : b.Sound) : (s.joinInsert b).CheckLaw := by
  obtain ⟨repeats, inserts, sending, recorded, sent⟩ := h
  have joined : ({ s with tx.insertQueue := s.tx.insertQueue ++ [b] } : State).CheckLaw := by
    refine ⟨repeats, fun c mem => ?_, sending, recorded, sent⟩
    rcases List.mem_append.1 mem with old | new
    · exact inserts c old
    · exact List.mem_singleton.1 new ▸ sound
  rcases s.joinInsert_cases b with ⟨_, h⟩ | ⟨_, h⟩ <;> rw [h]
  · exact joined.arbitrate
  · exact joined

theorem State.CheckLaw.release (h : s.CheckLaw) : s.release.CheckLaw := h

theorem State.CheckLaw.repeatFrame (h : s.CheckLaw) {b : Buffer} (fits : b.frame.payload.length ≤ 96) :
    (s.repeatFrame b).CheckLaw := by
  rcases s.repeatFrame_cases b with ⟨_, expired⟩ | ⟨_, joined⟩
  · rw [expired]; exact h
  · have counted : ({ s with rx.framesRepeated := s.rx.framesRepeated + 1 } : State).CheckLaw := h
    rw [joined]
    exact counted.joinRepeat (Buffer.repeated_sound fits _)

/-- A reply written over a command is sound: it fits, and its CHECK is not marked current (R42, R145). -/
theorem Buffer.replyBuffer_sound (b : Buffer) {payload : List Octet} (fits : payload.length ≤ 96) (reset : Bool) :
    (b.replyBuffer payload reset).Sound :=
  ⟨fits, fun current => (by cases current)⟩

theorem State.CheckLaw.classify (h : s.CheckLaw) {b : Buffer} (fits : b.frame.payload.length ≤ 96) :
    (s.classify b).CheckLaw := by
  refine State.classify_carries (P := State.CheckLaw) (Q := State.CheckLaw) b (fun h same => h.congr same)
    (fun h same => h.congr same) (fun _ h => h) (fun _ h => h.repeatFrame fits) ?_ ?_ h
  · rintro t l _ short ⟨repeats, inserts, sending, _, sent⟩
    refine ⟨repeats, inserts, sending, ?_, sent⟩
    rintro _ ⟨⟩
    exact short
  · rintro t payload reset _ ⟨l, last, rfl⟩ law
    have ⟨_, _, _, recorded, _⟩ := law
    exact law.joinInsert (b.replyBuffer_sound (recorded l last) reset)

theorem State.CheckLaw.endFrame (h : s.CheckLaw) (octets : List Octet) : (s.endFrame octets).CheckLaw := by
  rcases s.endFrame_cases octets with length | check | ⟨b, good, _, read, classified⟩
  · rw [length]; exact h
  · rw [check]; exact h
  · rw [classified]
    have counted : ({ s with link.assembly := .outside, rx.framesGood := s.rx.framesGood + 1 } : State).CheckLaw := h
    exact counted.classify (bufferOf_payload_le octets b good read)

theorem State.CheckLaw.assemble (h : s.CheckLaw) (sym : Symbol) : (s.assemble sym).CheckLaw := by
  unfold State.assemble
  split
  case h_2 | h_3 =>
    unfold State.claim
    split <;> exact h
  case h_4 => split <;> exact h
  case h_5 => exact h.endFrame _
  all_goals exact h

theorem State.CheckLaw.send (h : s.CheckLaw) (more : List Sent) (sound : ∀ x ∈ more, x.sound = true) :
    ({ s with downstream := s.downstream ++ more } : State).CheckLaw := by
  obtain ⟨repeats, inserts, sending, recorded, sent⟩ := h
  exact ⟨repeats, inserts, sending, recorded, List.forall_mem_append.2 ⟨sent, sound⟩⟩

theorem State.CheckLaw.leaveBypass (h : s.CheckLaw) : s.leaveBypass.CheckLaw := by
  unfold State.leaveBypass
  split
  · obtain ⟨repeats, inserts, _, recorded, sent⟩ := h
    exact ⟨repeats, inserts, by simp [TxState.buffer], recorded, sent⟩
  · exact h

theorem State.CheckLaw.mirror (h : s.CheckLaw) (sym : Symbol) : (s.mirror sym).CheckLaw := by
  unfold State.mirror
  split
  · exact h.send _ (by simp [Sent.sound])
  · exact h

theorem State.CheckLaw.receive (h : s.CheckLaw) (sym : Symbol) : (s.receive sym).CheckLaw := by
  unfold State.receive
  split
  · have heard : ((s.leaveBypass.heard).mirror sym).CheckLaw := State.CheckLaw.mirror (s := s.leaveBypass.heard) h.leaveBypass sym
    generalize (s.leaveBypass.heard).mirror sym = u at heard
    have hunting {v : State} (law : v.CheckLaw) : (v.hunt sym).CheckLaw := law.congr (by simp [State.carriage])
    have assembling {v : State} (law : v.CheckLaw) : (v.assembleUnlessBypass sym).CheckLaw := by
      unfold State.assembleUnlessBypass
      split
      · exact law
      · exact law.assemble sym
    unfold State.receiverTakes State.inSyncSymbol
    split
    · exact hunting (v := { u with link.rx := .hunting, link.idleRun := 0 }) heard
    · exact hunting heard
    · split
      · exact (assembling heard).congr (by simp [State.carriage])
      · exact assembling (heard.congr (by simp [State.carriage]))
  · exact h.mirror sym

theorem State.CheckLaw.takeExpiry (h : s.CheckLaw) (e : Expiry) : (s.takeExpiry e).CheckLaw := by
  cases e with
  | startUp =>
    rw [State.takeExpiry, State.completeStartUp]
    split <;> exact h
  | silence =>
    rw [State.takeExpiry, State.loseActivity]
    dsimp only
    split
    · split
      · exact h
      · exact h
      · split <;> exact h
    · exact h
  | link | mark | holdover | due | deadTime | pulse | cadence => exact h.congr (by simp [State.takeExpiry, State.carriage])

theorem State.CheckLaw.sendIdle (h : s.CheckLaw) : s.sendIdle.CheckLaw := by
  have left := h.leaveBypass
  unfold State.sendIdle
  dsimp only
  generalize s.leaveBypass = u at left
  have idle : ({ u with downstream := u.downstream ++ [.symbol .idle] } : State).CheckLaw :=
    left.send _ (by simp [Sent.sound])
  split
  · exact left
  · exact idle
  · split
    · exact idle
    · exact left

/-- A sound buffer whose CHECK is current goes out as octets that pass the receiver's checks (R9, R12). -/
theorem Buffer.Sound.frame_sound {b : Buffer} (h : b.Sound) (current : b.checkCurrent = true) :
    (Sent.frame b.octets).sound = true := by
  rw [h.octets_eq current, Sent.sound, b.frame.onLink_lengthGood h.1, b.frame.onLink_checkGood]
  rfl

theorem State.CheckLaw.completeTransmission (h : s.CheckLaw) (straps : BitVec 6) :
    (s.completeTransmission straps).CheckLaw := by
  unfold State.completeTransmission
  split
  · exact h
  · exact h
  next b tag state =>
    have ⟨_, _, sending, _, _⟩ := h
    obtain ⟨sound, current⟩ := sending b (by rw [state]; rfl)
    obtain ⟨repeats, inserts, _, recorded, sent⟩ := h.send (sentFrame s.tx.gap b) (by
      intro x mem
      rcases List.mem_append.1 mem with idle | frame
      · rw [List.eq_of_mem_replicate idle]; rfl
      · rw [List.mem_singleton.1 frame]; exact sound.frame_sound current)
    have finished : (s.finishFrame b tag).CheckLaw := by
      cases tag <;> exact ⟨repeats, inserts, by simp [State.finishFrame, TxState.buffer], recorded, sent⟩
    dsimp only
    split
    · obtain ⟨_, _, _, _, sent⟩ := finished
      exact ⟨by simp [State.fullReset, State.allReset, State.reset, BufferPool.reset],
        by simp [State.fullReset, State.allReset, State.reset, Transmitter.reset],
        by simp [State.fullReset, State.allReset, State.reset, Transmitter.reset, TxState.buffer],
        by simp [State.fullReset, State.allReset, State.reset, CommandUnit.reset], sent⟩
    · exact finished.arbitrate

/-- A reset empties every holder; what has been sent stays sent. -/
theorem State.CheckLaw.of_reset {t : State} (pool : t.pool = .reset) (tx : t.tx = .reset) (cmd : t.cmd = .reset)
    (sent : ∀ x ∈ t.downstream, x.sound = true) : t.CheckLaw := by
  rw [State.CheckLaw, pool, tx, cmd]
  exact ⟨by simp [BufferPool.reset], by simp [Transmitter.reset], by simp [Transmitter.reset, TxState.buffer],
    by simp [CommandUnit.reset], sent⟩

theorem State.cutTransmission_sound (h : ∀ x ∈ s.downstream, x.sound = true) :
    ∀ x ∈ s.cutTransmission.downstream, x.sound = true := by
  unfold State.cutTransmission
  split
  · exact List.forall_mem_append.2 ⟨h, by simp [Sent.sound]⟩
  all_goals exact h

theorem exec_checkLaw (c : Instr) (s t : State) (h : s.CheckLaw) (run : exec c s = .next t) : t.CheckLaw := by
  refine exec_keeps (P := State.CheckLaw) ?_ ?_ (fun _ _ h => h) (fun _ e h => h.takeExpiry e) (fun _ h => h.leaveBypass)
    (fun _ h => h) (fun _ sym h => h.receive sym) (fun _ h => h.sendIdle) (fun _ straps h => h.completeTransmission straps)
    c s t h run
  · rintro s ⟨_, _, _, _, sent⟩
    exact State.CheckLaw.of_reset rfl rfl rfl (State.cutTransmission_sound sent)
  · rintro s _ ⟨_, _, _, _, sent⟩
    exact State.CheckLaw.of_reset rfl rfl rfl sent

/-- Settles O50: a frame joins the Repeat Queue with its CHECK computed, the arbiter computes the CHECK of a reply, and the
octets sent are those of the frame with that CHECK. -/
theorem everyStepKeepsChecksRight : Obligations.EveryStepKeepsChecksRight := by
  unfold Obligations.EveryStepKeepsChecksRight
  exact step_keeps (P := State.CheckLaw) (fun _ _ h => h) exec_checkLaw

end Sys2Proof.Machine
end

section
/-! The statement about the timers and the receiver at every step (R2 to R5, R16, R75, R76, R78). -/

namespace Sys2Proof.Machine

/-! ## The receiver's ranges -/

theorem Config.syncRun_pos : 0 < Config.syncRun := by decide

theorem Config.errorLimit_pos : 0 < Config.errorLimit := by decide

/-- The law of a receiver depends on whether its timer runs, not on the ticks left. -/
theorem LinkReceiver.Law.rearmed {l l' : LinkReceiver} (h : l.Law) (r : l.Rearmed l') : l'.Law := by
  obtain ⟨same, timer⟩ := r
  obtain ⟨up, runs, rest⟩ := h
  rw [same]
  exact ⟨up, (not_congr timer).trans runs, rest⟩

/-- Assembly goes on inside a frame only: from an OPEN, and from octets before a CLOSE or an ABORT. -/
def Assembly.continues (before : Assembly) (sym : Symbol) (after : Assembly) : Prop :=
  after ≠ .outside → sym = .openSymbol ∨ before ≠ .outside ∧ sym ≠ .closeSymbol ∧ sym ≠ .abort

variable {s : State}

theorem State.claim_link (s : State) : ∃ a, s.claim.link = { s.link with assembly := a } := by
  unfold State.claim
  split
  · exact ⟨_, rfl⟩
  · exact ⟨.skipping, rfl⟩

theorem State.endFrame_rearmed (s : State) (octets : List Octet) :
    ({ s.link with assembly := .outside } : LinkReceiver).Rearmed (s.endFrame octets).link := by
  rcases s.endFrame_cases octets with length | check | ⟨b, _, _, _, good⟩
  · rw [length]; exact .refl _
  · rw [check]; exact .refl _
  · rw [good]
    exact State.classify_link { s with link.assembly := .outside, rx.framesGood := s.rx.framesGood + 1 } b

/-- Frame assembly changes of the receiver the assembly, and at a CLOSE what the frame's command re-arms. -/
theorem State.assemble_link (s : State) (sym : Symbol) :
    ∃ a, ({ s.link with assembly := a } : LinkReceiver).Rearmed (s.assemble sym).link
      ∧ s.link.assembly.continues sym a := by
  have same {a : Assembly} {l : LinkReceiver} (h : l = { s.link with assembly := a }) :
      ({ s.link with assembly := a } : LinkReceiver).Rearmed l := h ▸ .refl _
  unfold State.assemble
  split
  case h_1 => exact ⟨.assembling [], .refl _, fun _ => .inl rfl⟩
  case h_2 =>
    obtain ⟨a, link⟩ := s.claim_link
    exact ⟨a, same link, fun _ => .inl rfl⟩
  case h_3 =>
    obtain ⟨a, link⟩ := s.claim_link
    exact ⟨a, same link, fun _ => .inl rfl⟩
  case h_4 octets assembling =>
    have inside : s.link.assembly ≠ .outside := by simp [assembling]
    split
    · exact ⟨_, .refl _, fun _ => .inr ⟨inside, by simp, by simp⟩⟩
    · exact ⟨.skipping, .refl _, fun _ => .inr ⟨inside, by simp, by simp⟩⟩
  case h_5 octets _ => exact ⟨.outside, s.endFrame_rearmed octets, fun out => absurd rfl out⟩
  case h_6 | h_7 | h_8 => exact ⟨.outside, .refl _, fun out => absurd rfl out⟩
  case h_9 assembling => exact ⟨.skipping, .refl _, fun _ => .inr ⟨by simp [assembling], by simp, by simp⟩⟩
  case h_10 assembly | h_12 assembly | h_13 assembly | h_14 assembly =>
    exact ⟨.outside, same (by rw [← assembly]), fun out => absurd rfl out⟩
  case h_11 | h_15 | h_16 => exact ⟨s.link.assembly, .refl _, fun inside => .inr ⟨inside, by simp, by simp⟩⟩

/-- A receiver in IN-SYNC whose frame, if any, stands in an open bracket is within its ranges. -/
theorem State.assembleUnlessBypass_linkLaw {sym : Symbol}
    (h : ∀ a, s.link.assembly.continues sym a → ({ s.link with assembly := a } : LinkReceiver).Law)
    (outside : s.inBypass = true → s.link.assembly = .outside) : (s.assembleUnlessBypass sym).link.Law := by
  unfold State.assembleUnlessBypass
  split
  next bypass =>
    have empty := outside bypass
    have law := h .outside (fun out => absurd rfl out)
    rwa [← empty] at law
  next =>
    obtain ⟨a, same, continues⟩ := s.assemble_link sym
    exact (h a continues).rearmed same

/-- The bracket follows the symbols, and a frame ends with its bracket (R16). -/
theorem State.countValid_linkLaw (sym : Symbol) (a : Assembly) (h : s.link.Law) (rx : s.link.rx = .inSync)
    (continues : ((s.countValid).trackBracket sym).link.assembly.continues sym a) :
    ({ ((s.countValid).trackBracket sym).link with assembly := a } : LinkReceiver).Law := by
  obtain ⟨up, runs, idle, few, errors, valid, silence, bracket, inside⟩ := h
  have ranges (open' : Bool) (kept : a ≠ .outside → open' = true) :
      ({ s.countValid.link with assembly := a, bracketOpen := open' } : LinkReceiver).Law := by
    refine ⟨up, runs, idle, few, ?_, Nat.min_le_right _ _, silence, fun _ => rx, kept⟩
    simp only [State.countValid_link]
    split
    · decide
    · exact errors
  cases sym with
  | openSymbol => exact ranges true (fun _ => rfl)
  | closeSymbol | abort => exact ranges false (fun still => by simpa using continues still)
  | data | idle | invalid =>
    refine ranges s.link.bracketOpen fun still => inside ?_
    exact ((continues still).resolve_left (by simp)).1

theorem State.countInvalid_linkLaw (h : s.link.Law) (rx : s.link.rx = .inSync) : s.countInvalid.link.Law := by
  obtain ⟨up, runs, idle, few, errors, valid, silence, bracket, inside⟩ := h
  unfold State.countInvalid
  split
  next room => exact ⟨up, runs, idle, few, room, Nat.zero_le _, silence, bracket, inside⟩
  next =>
    refine ⟨by simp, ?_, Nat.zero_le _, fun _ => Config.syncRun_pos, errors, Nat.zero_le _, silence, by simp, by simp⟩
    simp [LinkReceiver.timerAfterLoss, up rx]

theorem State.inSyncSymbol_linkLaw (sym : Symbol) (buffers : s.BufferLaw) (h : s.link.Law) (rx : s.link.rx = .inSync) :
    (s.inSyncSymbol sym).link.Law := by
  have outside (bypass : s.inBypass = true) := (s.bufferLaw_iff.1 buffers).2.outside (.inr bypass)
  unfold State.inSyncSymbol
  split
  next invalid =>
    subst invalid
    have kept : (s.assembleUnlessBypass .invalid).link.Law := by
      refine State.assembleUnlessBypass_linkLaw (fun a continues => ?_) outside
      obtain ⟨up, runs, idle, few, errors, valid, silence, bracket, inside⟩ := h
      exact ⟨up, runs, idle, few, errors, valid, silence, bracket, fun still =>
        inside ((continues still).resolve_left (by simp)).1⟩
    refine State.countInvalid_linkLaw kept ?_
    unfold State.assembleUnlessBypass
    split
    · exact rx
    · obtain ⟨a, ⟨same, _⟩, _⟩ := s.assemble_link .invalid
      rw [same]
      exact rx
  next =>
    refine State.assembleUnlessBypass_linkLaw (fun a => State.countValid_linkLaw sym a h rx) fun bypass => ?_
    rw [(s.countValid.trackBracket_link sym).2]
    exact outside (by simpa [State.inBypass] using bypass)

theorem State.enterInSync_linkLaw (silence : s.link.silence ≤ 2) (closed : s.link.bracketOpen = true → False) :
    s.enterInSync.link.Law := by
  have closed : s.link.bracketOpen = false := by simpa using closed
  unfold State.enterInSync
  dsimp only
  split
  next up =>
    refine ⟨fun _ => up, by simp, le_rfl, by simp, Config.errorLimit_pos, Nat.zero_le _, silence, by simp, by simp⟩
  next =>
    refine ⟨fun _ => rfl, by simp, le_rfl, by simp, Config.errorLimit_pos, Nat.zero_le _, silence, by simp, by simp⟩

theorem State.hunt_linkLaw (sym : Symbol) (h : s.link.Law) (rx : s.link.rx ≠ .inSync) : (s.hunt sym).link.Law := by
  obtain ⟨up, runs, idle, few, errors, valid, silence, bracket, inside⟩ := h
  rcases s.hunt_cases sym with ⟨_, room, counted⟩ | ⟨_, _, entered⟩ | ⟨_, cleared⟩
  · rw [counted]
    exact ⟨up, runs, Nat.le_of_lt room, fun _ => room, errors, valid, silence, bracket, inside⟩
  · rw [entered]
    exact State.enterInSync_linkLaw silence fun isOpen => rx (bracket isOpen)
  · rw [cleared]
    exact ⟨up, runs, Nat.zero_le _, fun _ => Config.syncRun_pos, errors, valid, silence, bracket, inside⟩

theorem State.receive_linkLaw (sym : Symbol) (buffers : s.BufferLaw) (h : s.link.Law) : (s.receive sym).link.Law := by
  unfold State.receive
  split
  · have left := State.leaveBypass_bufferLaw buffers
    have taken : ((s.leaveBypass.heard).mirror sym).BufferLaw := left.congr (by simp) (by simp) (by simp) (by simp)
    have law : ((s.leaveBypass.heard).mirror sym).link.Law := by
      obtain ⟨up, runs, idle, few, errors, valid, _, bracket, inside⟩ := h
      have link : ((s.leaveBypass.heard).mirror sym).link = { s.link with silence := 0 } := by simp [State.heard]
      rw [link]
      exact ⟨up, runs, idle, few, errors, valid, Nat.zero_le _, bracket, inside⟩
    generalize (s.leaveBypass.heard).mirror sym = u at taken law
    unfold State.receiverTakes
    split
    next rx =>
      obtain ⟨up, runs, idle, few, errors, valid, silence, bracket, inside⟩ := law
      have closed : u.link.bracketOpen = true → RxState.hunting = .inSync := fun isOpen =>
        absurd (bracket isOpen) (by simp [rx])
      have hunting : ({ u.link with rx := .hunting, idleRun := 0 } : LinkReceiver).Law :=
        ⟨by simp, by simpa [rx] using runs, Nat.zero_le _, fun _ => Config.syncRun_pos, errors, valid, silence, closed, inside⟩
      exact State.hunt_linkLaw (s := { u with link.rx := .hunting, link.idleRun := 0 }) sym hunting (by simp)
    next rx => exact State.hunt_linkLaw sym law (by simp [rx])
    next rx => exact State.inSyncSymbol_linkLaw sym taken law rx
  · simpa using h

/-! ## Expiries and ticks -/

theorem State.loseActivity_linkLaw (h : s.link.Law) : s.loseActivity.link.Law := by
  obtain ⟨up, runs, idle, few, errors, valid, silence, bracket, inside⟩ := h
  unfold State.loseActivity
  dsimp only
  split
  · split
    · exact ⟨up, runs, idle, few, errors, valid, silence, bracket, inside⟩
    next rx =>
      exact ⟨by simp, by simpa [rx] using runs, Nat.zero_le _, fun _ => Config.syncRun_pos, Config.errorLimit_pos, Nat.zero_le _, silence,
        by simp, by simp⟩
    next rx =>
      have stopped (l : LinkReceiver) (link : l.link = .up) (quiet : l.silence ≤ 2) :
          ({ l with rx := .noSignal, idleRun := 0, errorRun := 0, validRun := 0, assembly := .outside,
                    bracketOpen := false, linkTimer := l.timerAfterLoss } : LinkReceiver).Law :=
        ⟨by simp, by simp [LinkReceiver.timerAfterLoss, link], Nat.zero_le _, fun _ => Config.syncRun_pos, Config.errorLimit_pos,
          Nat.zero_le _, quiet, by simp, by simp⟩
      split <;> exact stopped _ (up rx) silence
  · exact ⟨up, runs, idle, few, errors, valid, silence, bracket, inside⟩

theorem State.takeExpiry_linkLaw (e : Expiry) (h : s.link.Law) : (s.takeExpiry e).link.Law := by
  cases e with
  | silence => exact State.loseActivity_linkLaw h
  | link =>
    rcases s.expireLinkTimer_cases with ⟨_, idle⟩ | ⟨reached, down⟩
    · simpa only [State.takeExpiry, idle] using h
    · obtain ⟨up, runs, idle, few, errors, valid, silence, bracket, inside⟩ := h
      have lost := (runs.1 (by simp [reached])).2
      rw [State.takeExpiry, down]
      rw [(State.loseTrust_frame _ _).2.1, State.report_link]
      exact ⟨fun rx => absurd rx lost, by simp, idle, few, errors, valid, silence, bracket, inside⟩
  | startUp | mark | holdover | due | deadTime | pulse | cadence =>
    simpa [State.takeExpiry] using h

theorem LinkReceiver.tick_law {l : LinkReceiver} (h : l.Law) : l.tick.Law := by
  obtain ⟨up, runs, idle, few, errors, valid, silence, bracket, inside⟩ := h
  exact ⟨up, (not_congr (tickTimer_eq_none _)).trans runs, idle, few, errors, valid, Nat.min_le_right _ _, bracket, inside⟩

theorem LinkReceiver.reset_law : LinkReceiver.reset.Law := by decide

theorem State.completeTransmission_linkLaw (straps : BitVec 6) (h : s.link.Law) :
    (s.completeTransmission straps).link.Law := by
  unfold State.completeTransmission
  split
  · exact h
  · exact h
  next b tag _ =>
    dsimp only
    split
    · exact LinkReceiver.reset_law
    · simpa using h

/-- Every command keeps the receiver within its ranges. -/
theorem exec_linkLaw (c : Instr) (s t : State) (h : s.BufferLaw ∧ s.link.Law) (run : exec c s = .next t) :
    t.BufferLaw ∧ t.link.Law := by
  refine ⟨exec_bufferLaw c s t h.1 run,
    (exec_keeps (P := fun s => s.BufferLaw ∧ s.link.Law) ?_ ?_ ?_ ?_ ?_ ?_ ?_ ?_ ?_ c s t h run).2⟩
  · exact fun _ _ => ⟨State.reset_bufferLaw rfl rfl rfl, LinkReceiver.reset_law⟩
  · exact fun _ _ _ => ⟨State.reset_bufferLaw rfl rfl rfl, LinkReceiver.reset_law⟩
  · exact fun _ _ h => h
  · exact fun _ e ⟨buffers, link⟩ => ⟨State.takeExpiry_bufferLaw e buffers, State.takeExpiry_linkLaw e link⟩
  · exact fun _ ⟨buffers, link⟩ => ⟨State.leaveBypass_bufferLaw buffers, by simpa using link⟩
  · exact fun _ ⟨buffers, link⟩ => ⟨buffers.congr rfl rfl rfl rfl, LinkReceiver.tick_law link⟩
  · exact fun _ sym ⟨buffers, link⟩ => ⟨State.receive_bufferLaw sym buffers, State.receive_linkLaw sym buffers link⟩
  · exact fun _ ⟨buffers, link⟩ => ⟨State.sendIdle_bufferLaw buffers, by simpa using link⟩
  · exact fun _ straps ⟨buffers, link⟩ =>
      ⟨State.completeTransmission_bufferLaw straps buffers, State.completeTransmission_linkLaw straps link⟩

/-- Settles O58: the Timebase's half is an invariant of the control part; the receiver's half follows the symbols, and needs the
law of the buffers where a frame would be assembled in BYPASS. -/
theorem everyStepKeepsTimersInTheirStates : Obligations.EveryStepKeepsTimersInTheirStates := by
  unfold Obligations.EveryStepKeepsTimersInTheirStates
  refine ⟨fun _ _ => timeLaw_controlInvariant.step fun _ _ h => h, fun s t buffers link run => ?_⟩
  exact (step_keeps (P := fun s => s.BufferLaw ∧ s.link.Law) (fun _ _ h => h) exec_linkLaw s t ⟨buffers, link⟩ run).2

end Sys2Proof.Machine
end

section
/-! The statement about settling (R63, R116, R124, R135): taking one outstanding expiry leaves fewer, whichever is chosen. -/

namespace Sys2Proof.Machine

/-! ## Banks in which nothing falls due -/

/-- A line record with no expiry and no edge outstanding. -/
def LineMode.Quiet : LineMode → Prop
  | .static => True
  | .pulse _ left _ => left ≠ 0
  | .cadence _ _ _ due => due = false

/-- From one bank to another nothing falls due: an outstanding timer was so before, and a line's record stands or is quiet. -/
structure Bank.Calms (b b' : Bank) : Prop where
  timer : b'.transition.map (·.timer) = some 0 → b.transition.map (·.timer) = some 0
  line : ∀ i, (b'.view i).mode = (b.view i).mode ∨ (b'.view i).mode.Quiet

theorem Bank.Calms.refl (b : Bank) : b.Calms b := ⟨id, fun _ => .inl rfl⟩

theorem Bank.Calms.trans {b b' b'' : Bank} (h : b.Calms b') (h' : b'.Calms b'') : b.Calms b'' where
  timer due := h.timer (h'.timer due)
  line i := by
    rcases h'.line i with same | quiet
    · rw [same]; exact h.line i
    · exact .inr quiet

theorem Bank.transitionDue_iff (b : Bank) : b.transitionDue = true ↔ b.transition.map (·.timer) = some 0 := by
  cases pending : b.transition <;> simp [Bank.transitionDue, pending]

theorem Bank.pulseDue_iff (b : Bank) (i : Fin 8) :
    b.pulseDue i = true ↔ ∃ revert mode, b.lines[i] = .pulse revert 0 mode := by
  unfold Bank.pulseDue
  split
  next line => simp [line]
  all_goals simp_all

theorem Bank.edgeDue_iff (b : Bank) (i : Fin 8) :
    b.edgeDue i = true ↔ ∃ period onTime phase, b.lines[i] = .cadence period onTime phase true := by
  unfold Bank.edgeDue
  split
  next line => simp [line]
  all_goals simp_all

/-- A quiet line has no pulse to revert and no edge to take. -/
theorem Bank.not_due_of_quiet {b : Bank} {i : Fin 8} (h : (b.view i).mode.Quiet) :
    b.pulseDue i = false ∧ b.edgeDue i = false := by
  have line : b.lines[i] = (b.view i).mode := rfl
  unfold Bank.pulseDue Bank.edgeDue
  rw [line]
  cases mode : (b.view i).mode <;> simp_all [LineMode.Quiet]

theorem Bank.Calms.transitionDue {b b' : Bank} (h : b.Calms b') (due : b'.transitionDue = true) :
    b.transitionDue = true :=
  b.transitionDue_iff.2 (h.timer (b'.transitionDue_iff.1 due))

theorem Bank.Calms.pulseDue {b b' : Bank} (h : b.Calms b') {i : Fin 8} (due : b'.pulseDue i = true) :
    b.pulseDue i = true := by
  rcases h.line i with same | quiet
  · have line : b'.lines[i] = b.lines[i] := same
    simpa only [Bank.pulseDue, line] using due
  · exact absurd due (by simp [Bank.not_due_of_quiet quiet])

theorem Bank.Calms.edgeDue {b b' : Bank} (h : b.Calms b') {i : Fin 8} (due : b'.edgeDue i = true) :
    b.edgeDue i = true := by
  rcases h.line i with same | quiet
  · have line : b'.lines[i] = b.lines[i] := same
    simpa only [Bank.edgeDue, line] using due
  · exact absurd due (by simp [Bank.not_due_of_quiet quiet])

theorem BankStep.lineTaken_quiet {p : BankStep} (wide : p.pulse ≠ some 0) (revert : Bool) :
    (p.lineTaken revert).Quiet := by
  unfold BankStep.lineTaken
  split
  · trivial
  next w width =>
    intro zero
    exact wide (width.trans (congrArg some (BitVec.eq_of_toNat_eq zero)))

/-- A step that is applied starts timers, and none of them at 0 (R86, R111, R113). -/
theorem Bank.applyStep_calms (b : Bank) (p : BankStep) (wide : p.pulse ≠ some 0) : b.Calms (b.applyStep p) where
  timer := by
    rw [b.applyStep_timer p]
    cases pending : b.transition with
    | some t => exact id
    | none =>
      dsimp only
      split
      next opens =>
        intro zero
        exact absurd (BitVec.eq_of_toNat_eq (Option.some.inj zero)) opens.2.1
      next => exact fun none => by cases none
  line i := by
    rcases b.applyStep_view_cases p i with
      ⟨_, v⟩ | ⟨_, _, v⟩ | ⟨_, _, _, v⟩ | ⟨_, _, _, v⟩ | ⟨_, _, _, _, v⟩ <;> rw [v]
    · exact .inl rfl
    · refine .inr ?_
      dsimp only
      split
      · exact BankStep.lineTaken_quiet wide true
      · trivial
    · exact .inr trivial
    · exact .inr trivial
    · exact .inr (BankStep.lineTaken_quiet wide false)

theorem Bank.safeTransition_calms (b : Bank) : b.Calms b.safeTransition := by
  have quieted : b.Calms b.quieted := ⟨fun due => by simp [Bank.quieted] at due, fun i => .inr (by rw [b.quieted_view]; trivial)⟩
  exact quieted.trans (b.quieted.applyStep_calms _ (by simp [Bank.safeStep]))

theorem Bank.expireTransition_calms {b : Bank} (h : b.Law) : b.Calms b.expireTransition where
  timer := by simp
  line i := by
    obtain ⟨_, _, pulsed⟩ := (b.law_iff.1 h).1 i
    rw [b.expireTransition_view i]
    dsimp only
    split
    · split
      next q waiting =>
        refine .inr fun zero => ?_
        exact (pulsed q waiting).2 (BitVec.eq_of_toNat_eq zero)
      next => exact .inl rfl
    · exact .inl rfl

/-- The revert of a pulse is a step without a pulse that makes the line STATIC. -/
theorem Bank.expirePulse_calms (b : Bank) (i : Fin 8) :
    b.Calms (b.expirePulse i) ∧ (b.pulseDue i = true → (b.expirePulse i).pulseDue i = false) := by
  unfold Bank.expirePulse
  split
  next revert left mode line =>
    dsimp only
    generalize first : (if b.opensTransition (oneLineStep i revert mode) then b.takePlainReverts else b) = c
    have before : b.Calms c := by
      rw [← first]
      split
      · exact b.applyStep_calms _ (by simp)
      · exact .refl b
    refine ⟨before.trans (c.applyStep_calms _ (by simp [oneLineStep])), fun _ => ?_⟩
    refine (Bank.not_due_of_quiet ?_).1
    have masked : inSet (oneLineStep i revert mode).mask i = true := by simp [oneLineStep]
    have quiet := BankStep.lineTaken_quiet (p := oneLineStep i revert mode) (by simp [oneLineStep])
    rcases c.applyStep_view_cases (oneLineStep i revert mode) i with
      ⟨out, _⟩ | ⟨_, _, v⟩ | ⟨_, _, _, v⟩ | ⟨_, _, _, v⟩ | ⟨_, _, _, _, v⟩
    · exact absurd masked (by simp [out])
    · rw [v]
      dsimp only
      split
      · exact quiet true
      · trivial
    · rw [v]; trivial
    · rw [v]; trivial
    · rw [v]; exact quiet false
  next line => exact ⟨.refl b, fun due => by simp [Bank.pulseDue, line] at due⟩
  next line => exact ⟨.refl b, fun due => by simp [Bank.pulseDue, line] at due⟩

theorem Bank.takeEdge_calms (b : Bank) (i : Fin 8) :
    b.Calms (b.takeEdge i) ∧ (b.takeEdge i).edgeDue i = false := by
  have taken : (b.takeEdge i).edgeDue i = false := by
    unfold Bank.takeEdge
    split
    · simp [Bank.edgeDue]
    next line => simp [Bank.edgeDue, line]
    next line => simp [Bank.edgeDue, line]
    next line => simp [Bank.edgeDue, line]
  refine ⟨⟨by simp, fun j => ?_⟩, taken⟩
  by_cases same : i = j
  · subst same
    unfold Bank.takeEdge
    split
    · exact .inr (by simp [Bank.view, LineMode.Quiet])
    all_goals exact .inl rfl
  · rw [b.takeEdge_view_other same]
    exact .inl rfl

/-! ## States in which nothing falls due -/

/-- From one state to another no step is added and nothing but the head step falls due. -/
structure State.Calms (s t : State) : Prop where
  held : t.steps.held.length ≤ s.steps.held.length
  startUp : t.startUpDue = true → s.startUpDue = true
  silence : t.silenceDue = true → s.silenceDue = true
  link : t.link.linkTimer = some 0 → s.link.linkTimer = some 0
  mark : t.time.markTimer = some 0 → s.time.markTimer = some 0
  holdover : t.time.holdoverTimer = some 0 → s.time.holdoverTimer = some 0
  banks : ∀ id, (s.out.bank id).Calms (t.out.bank id)

theorem State.Calms.isDue {s t : State} (h : s.Calms t) (e : Expiry) (other : e ≠ .due) (due : t.isDue e = true) :
    s.isDue e = true := by
  cases e with
  | startUp => exact h.startUp due
  | silence => exact h.silence due
  | link => simpa [State.isDue] using h.link (by simpa [State.isDue] using due)
  | mark => simpa [State.isDue] using h.mark (by simpa [State.isDue] using due)
  | holdover => simpa [State.isDue] using h.holdover (by simpa [State.isDue] using due)
  | due => exact absurd rfl other
  | deadTime id => exact (h.banks id).transitionDue due
  | pulse id i => exact (h.banks id).pulseDue due
  | cadence id i => exact (h.banks id).edgeDue due

variable {s : State}

theorem State.startUpDue_congr {t : State} (resetn : t.resetn = s.resetn) (tx : t.tx = s.tx)
    (ticks : t.time.localTicks = s.time.localTicks) : t.startUpDue = s.startUpDue := by
  unfold State.startUpDue State.inBypass
  rw [resetn, tx, ticks]

theorem State.silenceDue_congr {t : State} (resetn : t.resetn = s.resetn) (rx : t.link.rx = s.link.rx)
    (silence : t.link.silence = s.link.silence) : t.silenceDue = s.silenceDue := by
  unfold State.silenceDue
  rw [resetn, rx, silence]

theorem State.Calms.of_banks {t : State} (resetn : t.resetn = s.resetn) (tx : t.tx = s.tx) (time : t.time = s.time)
    (link : t.link = s.link) (held : t.steps.held.length ≤ s.steps.held.length)
    (banks : ∀ id, (s.out.bank id).Calms (t.out.bank id)) : s.Calms t where
  held := held
  startUp := by rw [State.startUpDue_congr resetn tx (by rw [time])]; exact id
  silence := by rw [State.silenceDue_congr resetn (by rw [link]) (by rw [link])]; exact id
  link := by rw [link]; exact id
  mark := by rw [time]; exact id
  holdover := by rw [time]; exact id
  banks := banks

theorem OutputUnit.setBank_calms (o : OutputUnit) (id : BankId) {b : Bank} (h : (o.bank id).Calms b) (id' : BankId) :
    (o.bank id').Calms ((o.setBank id b).bank id') := by
  by_cases same : id = id'
  · subst same; simpa using h
  · rw [OutputUnit.bank_setBank_other o id id' b same]; exact .refl _

theorem State.withBank_calms (s : State) (id : BankId) {f : Bank → Bank} (h : (s.out.bank id).Calms (f (s.out.bank id))) :
    s.Calms (s.withBank id f) :=
  .of_banks rfl rfl rfl rfl le_rfl (s.out.setBank_calms id h)

theorem State.loseTrust_banks (s : State) (c : RunCause) (id : BankId) :
    (s.out.bank id).Calms ((s.loseTrust c).out.bank id) := by
  rcases s.loseTrust_out c with ⟨_, _, out⟩ | ⟨_, same⟩
  · rw [out, OutputUnit.bank_safeAll]; exact Bank.safeTransition_calms _
  · rw [same]; exact .refl _

/-- No expiry adds a step to the queue. -/
theorem State.takeExpiry_shrinks (s : State) (e : Expiry) : s.steps.ShrinksTo (s.takeExpiry e).steps := by
  cases e with
  | link => exact s.expireLinkTimer_shrinks
  | mark => exact s.expireMarkTimer_shrinks
  | holdover => exact s.expireHoldoverTimer_shrinks
  | due => exact s.takeDue_shrinks
  | startUp | silence | deadTime id | pulse id i | cadence id i =>
    simpa [State.takeExpiry] using StepQueue.ShrinksTo.refl _

/-! ## Taking one expiry (R2, R5, R17, R75, R76, R93, R114, R117, R119) -/

theorem State.completeStartUp_calms (s : State) :
    s.Calms s.completeStartUp ∧ s.completeStartUp.isDue .startUp = false := by
  unfold State.completeStartUp
  split
  · have done : ({ s with tx.startUpDone := true } : State).startUpDue = false := by simp [State.startUpDue]
    exact ⟨⟨le_rfl, fun due => absurd due (by simp [done]), id, id, id, id, fun _ => .refl _⟩, done⟩
  next idle => exact ⟨.of_banks rfl rfl rfl rfl le_rfl fun _ => .refl _, Bool.eq_false_iff.2 idle⟩

/-- Leaving IN-SYNC loads the link timer with a timeout of 100 ticks at least (Table 9.7). -/
theorem LinkReceiver.timerAfterLoss_running {l : LinkReceiver} (range : Param.linkTimeout.inRange l.linkTimeout)
    (reached : l.timerAfterLoss = some 0) : l.linkTimer = some 0 := by
  unfold LinkReceiver.timerAfterLoss at reached
  split at reached
  · have least : 100 ≤ l.linkTimeout := range.1
    have zero := Option.some.inj reached
    omega
  · exact reached

theorem State.loseActivity_calms (range : Param.linkTimeout.inRange s.link.linkTimeout) :
    s.Calms s.loseActivity ∧ s.loseActivity.isDue .silence = false := by
  cases due : s.silenceDue with
  | false =>
    rw [s.loseActivity_of_not_due due]
    exact ⟨.of_banks rfl rfl rfl rfl le_rfl fun _ => .refl _, due⟩
  | true =>
    obtain ⟨_, rx, _⟩ := s.silenceDue_iff.1 due
    have link : s.loseActivity.link.rx = .noSignal
        ∧ (s.loseActivity.link.linkTimer = some 0 → s.link.linkTimer = some 0) := by
      unfold State.loseActivity
      dsimp only
      rw [if_pos due]
      split
      · exact ⟨‹_›, id⟩
      · exact ⟨rfl, id⟩
      · refine ⟨rfl, ?_⟩
        split <;> exact LinkReceiver.timerAfterLoss_running range
    have settled : s.loseActivity.silenceDue = false := by simp [State.silenceDue, link.1]
    refine ⟨⟨?_, ?_, ?_, link.2, ?_, ?_, ?_⟩, settled⟩
    · simp
    · rw [State.startUpDue_congr (s := s) (by simp) (by simp) (by simp)]; exact id
    · simp [settled]
    · simp
    · simp
    · simpa using fun id => Bank.Calms.refl _

theorem State.expireLinkTimer_calms (s : State) :
    s.Calms s.expireLinkTimer ∧ s.expireLinkTimer.isDue .link = false := by
  have held := s.expireLinkTimer_shrinks.1.length_le
  rcases s.expireLinkTimer_cases with ⟨stopped, idle⟩ | ⟨_, down⟩
  · rw [idle]
    exact ⟨.of_banks rfl rfl rfl rfl le_rfl fun _ => .refl _, by simpa [State.isDue] using stopped⟩
  · rw [down] at held ⊢
    have banks := State.loseTrust_banks
      (State.report { s with link.link := .down, link.linkTimer := none } (.linkChange .down)) .link
    refine ⟨⟨held, ?_, ?_, ?_, ?_, ?_, banks⟩, by simp [State.isDue]⟩
    · rw [State.startUpDue_congr (s := s) (by simp) (by simp) (by simp)]; exact id
    · rw [State.silenceDue_congr (s := s) (by simp) (by simp) (by simp)]; exact id
    all_goals simp

theorem State.enterUnsynced_parts (s : State) :
    s.enterUnsynced.time = { s.time with
        sync := .unsynced, epoch := none, goodMarks := 0, outliers := 0, residue := 0, markTimer := none
        holdoverTimer := none }
      ∧ ∀ id, (s.out.bank id).Calms (s.enterUnsynced.out.bank id) := by
  refine ⟨by simp [State.enterUnsynced], fun id => ?_⟩
  unfold State.enterUnsynced
  dsimp only
  generalize flushed : State.flushAll _ FlushCause.sync = u
  have out : u.out = s.out := by rw [← flushed]; simp
  rw [← out]
  exact u.loseTrust_banks .sync id

theorem State.enterUnsynced_calms (s : State) :
    s.Calms s.enterUnsynced ∧ s.enterUnsynced.isDue .mark = false ∧ s.enterUnsynced.isDue .holdover = false := by
  obtain ⟨time, banks⟩ := s.enterUnsynced_parts
  refine ⟨⟨s.enterUnsynced_shrinks.1.length_le, ?_, ?_, by simp, by simp [time], by simp [time], banks⟩,
    by simp [State.isDue, time], by simp [State.isDue, time]⟩
  · rw [State.startUpDue_congr (s := s) (by simp) (by simp) (by simp [time])]; exact id
  · rw [State.silenceDue_congr (s := s) (by simp) (by simp) (by simp)]; exact id

/-- Entering HOLDOVER loads its timer with 1000 ticks at least (R75, Table 9.7). -/
theorem State.expireMarkTimer_calms (range : Param.holdoverLimit.inRange s.time.holdoverLimit) :
    s.Calms s.expireMarkTimer ∧ s.expireMarkTimer.isDue .mark = false := by
  unfold State.expireMarkTimer
  split
  · split
    · exact ⟨s.enterUnsynced_calms.1, s.enterUnsynced_calms.2.1⟩
    · refine ⟨⟨le_rfl, id, id, id, fun due => (by simp [State.enterHoldover] at due), fun due => ?_, fun _ => .refl _⟩, rfl⟩
      have least : 1000 ≤ s.time.holdoverLimit := range.1
      have zero : s.time.holdoverLimit = 0 := by simpa [State.enterHoldover] using due
      omega
    all_goals exact ⟨⟨le_rfl, id, id, id, fun due => (by cases due), id, fun _ => .refl _⟩, rfl⟩
  next stopped => exact ⟨.of_banks rfl rfl rfl rfl le_rfl fun _ => .refl _, by simpa [State.isDue] using stopped⟩

theorem State.expireHoldoverTimer_calms (s : State) :
    s.Calms s.expireHoldoverTimer ∧ s.expireHoldoverTimer.isDue .holdover = false := by
  unfold State.expireHoldoverTimer
  split
  · split
    · exact ⟨s.enterUnsynced_calms.1, s.enterUnsynced_calms.2.2⟩
    all_goals exact ⟨⟨le_rfl, id, id, id, id, fun due => (by cases due), fun _ => .refl _⟩, rfl⟩
  next stopped => exact ⟨.of_banks rfl rfl rfl rfl le_rfl fun _ => .refl _, by simpa [State.isDue] using stopped⟩

theorem State.takeTransition_calms (banks : ∀ id, (s.out.bank id).Law) (id : BankId) :
    s.Calms (s.takeTransition id) ∧ (s.takeTransition id).isDue (.deadTime id) = false := by
  unfold State.takeTransition
  split
  · exact ⟨s.withBank_calms id (Bank.expireTransition_calms (banks id)), by simp [State.isDue, State.withBank]⟩
  next idle => exact ⟨.of_banks rfl rfl rfl rfl le_rfl fun _ => .refl _, by simpa [State.isDue] using idle⟩

theorem State.takePulse_calms (s : State) (id : BankId) (i : Fin 8) :
    s.Calms (s.takePulse id i) ∧ (s.takePulse id i).isDue (.pulse id i) = false := by
  obtain ⟨calms, taken⟩ := (s.out.bank id).expirePulse_calms i
  unfold State.takePulse
  split
  next due => exact ⟨s.withBank_calms id calms, by simpa [State.isDue, State.withBank] using taken due⟩
  next idle => exact ⟨.of_banks rfl rfl rfl rfl le_rfl fun _ => .refl _, by simpa [State.isDue] using idle⟩

theorem State.takeCadenceEdge_calms (s : State) (id : BankId) (i : Fin 8) :
    s.Calms (s.takeCadenceEdge id i) ∧ (s.takeCadenceEdge id i).isDue (.cadence id i) = false := by
  obtain ⟨calms, taken⟩ := (s.out.bank id).takeEdge_calms i
  unfold State.takeCadenceEdge
  split
  · exact ⟨s.withBank_calms id calms, by simpa [State.isDue, State.withBank] using taken⟩
  next idle => exact ⟨.of_banks rfl rfl rfl rfl le_rfl fun _ => .refl _, by simpa [State.isDue] using idle⟩

theorem State.takeDue_calms (wide : ∀ st ∈ s.steps.held, st.pulse ≠ some 0) : s.Calms s.takeDue := by
  refine .of_banks (by simp) (by simp) (by simp) (by simp) s.takeDue_shrinks.1.length_le fun id => ?_
  rcases s.takeDue_cases with idle | ⟨st, rest, held, _, ⟨_, applied⟩ | ⟨_, suppressed⟩⟩
  · rw [idle]; exact .refl _
  · rw [applied]
    exact s.out.setBank_calms st.bank ((s.out.bank st.bank).applyStep_calms _ (wide st (by simp [held]))) id
  · rw [suppressed]; exact .refl _

theorem State.takeDue_held (due : s.stepDue = true) : s.takeDue.steps.held.length < s.steps.held.length := by
  unfold State.stepDue at due
  unfold State.takeDue
  split at due
  · cases due
  next st rest held =>
    have late : isAfter st.due s.time.networkTime = false := by simpa using due
    rw [held]
    simp only [late, Bool.false_eq_true, if_false]
    split <;> simp

/-! ## Settling ends -/

/-- The laws under which an expiry leaves fewer outstanding than there were. -/
abbrev State.Settles (s : State) : Prop := s.BankLaw ∧ s.TimeLaw

/-- What is still to be settled: the held steps, and the other expiries outstanding. -/
def State.unsettled (s : State) : Nat :=
  s.steps.held.length + (allExpiries.filter fun e => e ≠ .due ∧ s.isDue e = true).length

theorem State.unsettled_le_bound (s : State) : s.unsettled ≤ s.settleBound :=
  Nat.add_le_add_left (List.length_filter_le _ _) _

theorem State.Calms.filter {t : State} (h : s.Calms t) :
    (allExpiries.filter fun e => e ≠ .due ∧ t.isDue e = true)
      = (allExpiries.filter fun e => e ≠ .due ∧ s.isDue e = true).filter fun e => t.isDue e := by
  rw [List.filter_filter]
  refine List.filter_congr fun e _ => ?_
  by_cases other : e = .due
  · simp [other]
  · have before := h.isDue e other
    cases due : t.isDue e with
    | false => simp
    | true => simp [other, before due]

theorem State.Calms.unsettled {t : State} (h : s.Calms t)
    (fewer : t.steps.held.length < s.steps.held.length ∨ ∃ e ≠ .due, s.isDue e = true ∧ t.isDue e = false) :
    t.unsettled < s.unsettled := by
  have held := h.held
  unfold State.unsettled
  rw [h.filter]
  rcases fewer with left | ⟨e, other, due, taken⟩
  · have := List.length_filter_le (fun e => t.isDue e) (allExpiries.filter fun e => e ≠ .due ∧ s.isDue e = true)
    omega
  · have := List.length_filter_lt_length_iff_exists (p := fun e => t.isDue e)
      (l := allExpiries.filter fun e => e ≠ .due ∧ s.isDue e = true)
    have dropped := this.2 ⟨e, by simp [mem_allExpiries, other, due], by simp [taken]⟩
    omega

theorem State.takeExpiry_unsettled (h : s.Settles) {e : Expiry} (due : s.isDue e = true) :
    (s.takeExpiry e).unsettled < s.unsettled := by
  obtain ⟨banks, ⟨⟨_, _, _, _, _, holdoverLimit, _, linkTimeout⟩, _⟩⟩ := h
  have taken {t : State} (other : e ≠ .due) (work : s.Calms t ∧ t.isDue e = false) : t.unsettled < s.unsettled :=
    work.1.unsettled (.inr ⟨e, other, due, work.2⟩)
  cases e with
  | startUp => exact taken (by simp) s.completeStartUp_calms
  | silence => exact taken (by simp) (State.loseActivity_calms linkTimeout)
  | link => exact taken (by simp) s.expireLinkTimer_calms
  | mark => exact taken (by simp) (State.expireMarkTimer_calms holdoverLimit)
  | holdover => exact taken (by simp) s.expireHoldoverTimer_calms
  | due => exact (State.takeDue_calms (s.bankLaw_iff.1 banks).2).unsettled (.inl (State.takeDue_held due))
  | deadTime id => exact taken (by simp) (State.takeTransition_calms banks.banks id)
  | pulse id i => exact taken (by simp) (s.takePulse_calms id i)
  | cadence id i => exact taken (by simp) (s.takeCadenceEdge_calms id i)

theorem State.Settles.takeExpiry (h : s.Settles) (e : Expiry) : (s.takeExpiry e).Settles :=
  ⟨bankLaw_controlInvariant.takeExpiry e h.1, timeLaw_controlInvariant.takeExpiry e h.2⟩

/-- One settling takes one of the outstanding expiries, as its command does, and counts a choice where there was one. -/
theorem State.settleOne_takes (due : s.outstanding ≠ []) :
    ∃ e ∈ s.outstanding, ∃ k ≤ 1, s.settleOne = ({ s with choices := s.choices + k } : State).takeExpiry e := by
  unfold State.settleOne
  split
  next none => exact absurd none due
  next e only => exact ⟨e, by simp [only], 0, Nat.zero_le _, rfl⟩
  next e e' es several =>
    have inside : Config.expiryOrder s.choices % (e :: e' :: es).length < (e :: e' :: es).length :=
      Nat.mod_lt _ (by simp)
    refine ⟨_, ?_, 1, le_rfl, rfl⟩
    rw [several, List.getD_eq_getElem _ _ inside]
    exact List.getElem_mem inside

theorem State.settleOne_settles (h : s.Settles) : s.settleOne.Settles :=
  State.settleOne_keeps (P := State.Settles) (fun _ _ h => h) (fun _ e h => h.takeExpiry e) s h

theorem State.settleOne_unsettled (h : s.Settles) (due : s.outstanding ≠ []) : s.settleOne.unsettled < s.unsettled := by
  obtain ⟨e, mem, k, _, taken⟩ := State.settleOne_takes due
  rw [taken]
  exact State.takeExpiry_unsettled (s := { s with choices := s.choices + k }) h ((s.mem_outstanding e).1 mem)

theorem State.settleUpTo_of_settled (n : Nat) (none : s.outstanding = []) : State.settleUpTo n s = s := by
  induction n with
  | zero => rfl
  | succ n ih =>
    have stays : s.settleOne = s := by simp only [State.settleOne, none]
    rw [State.settleUpTo, stays, ih]

/-- With as many settlings as there is to settle, nothing stays outstanding. -/
theorem State.settleUpTo_outstanding {n : Nat} (h : s.Settles) (enough : s.unsettled ≤ n) :
    (State.settleUpTo n s).outstanding = [] := by
  by_cases none : s.outstanding = []
  · rw [State.settleUpTo_of_settled n none]; exact none
  · have fewer := State.settleOne_unsettled h none
    induction n generalizing s with
    | zero => omega
    | succ n ih =>
      rw [State.settleUpTo]
      by_cases settled : s.settleOne.outstanding = []
      · rw [State.settleUpTo_of_settled n settled]; exact settled
      · have next := State.settleOne_settles h
        exact ih next (by omega) settled (State.settleOne_unsettled next settled)

/-- More settlings than there is to settle make no difference. -/
theorem State.settleUpTo_enough {n m : Nat} (h : s.Settles) (few : s.unsettled ≤ n) (more : n ≤ m) :
    State.settleUpTo m s = State.settleUpTo n s := by
  induction n generalizing s m with
  | zero =>
    have none : s.outstanding = [] := by
      by_contra due
      have := State.settleOne_unsettled h due
      omega
    rw [State.settleUpTo_of_settled m none, State.settleUpTo_of_settled 0 none]
  | succ n ih =>
    obtain ⟨m, rfl⟩ : ∃ k, m = k + 1 := ⟨m - 1, by omega⟩
    by_cases none : s.outstanding = []
    · rw [State.settleUpTo_of_settled _ none, State.settleUpTo_of_settled _ none]
    · have fewer := State.settleOne_unsettled h none
      exact ih (State.settleOne_settles h) (by omega) (by omega)

theorem State.settleUpTo_bound {n : Nat} (h : s.Settles) (enough : s.unsettled ≤ n) :
    State.settleUpTo n s = State.settleUpTo s.settleBound s :=
  (State.settleUpTo_enough h le_rfl enough).trans (State.settleUpTo_enough h le_rfl s.unsettled_le_bound).symm

/-- Settling takes one outstanding expiry and settles what that leaves. -/
theorem State.settle_eq_settleOne (h : s.Settles) (due : s.outstanding ≠ []) : s.settle = s.settleOne.settle := by
  have fewer := State.settleOne_unsettled h due
  have bound := s.unsettled_le_bound
  obtain ⟨n, more⟩ : ∃ n, s.settleBound = n + 1 := ⟨s.settleBound - 1, by omega⟩
  rw [State.settle, more, State.settleUpTo, State.settleUpTo_bound (State.settleOne_settles h) (by omega), ← State.settle]

/-- Leaving BYPASS makes nothing fall due. -/
theorem State.leaveBypass_outstanding (none : s.outstanding = []) : s.leaveBypass.outstanding = [] := by
  refine List.eq_nil_iff_forall_not_mem.2 fun e mem => ?_
  have due := (State.mem_outstanding _ e).1 mem
  have notDue : s.isDue e ≠ true := fun due => by
    have := (s.mem_outstanding e).2 due
    rw [none] at this
    cases this
  refine notDue ?_
  unfold State.leaveBypass at due
  split at due
  · cases e with
    | startUp => simp [State.isDue, State.startUpDue, State.inBypass] at due
    | _ => exact due
  · exact due

theorem State.settle_outstanding (h : s.Settles) : s.settle.outstanding = [] :=
  State.leaveBypass_outstanding (State.settleUpTo_outstanding h s.unsettled_le_bound)

/-! ## What is outstanding -/

theorem State.inBypass_iff (s : State) : s.inBypass = true ↔ s.tx.state = .bypass := by
  unfold State.inBypass
  split <;> simp_all

theorem State.startUpDue_iff (s : State) :
    s.startUpDue = true
      ↔ s.resetn = true ∧ s.tx.state = .bypass ∧ s.tx.startUpDone = false ∧ s.time.localTicks = 256 := by
  simp only [State.startUpDue, Bool.and_eq_true, s.inBypass_iff, Bool.not_eq_true', beq_iff_eq, and_assoc]
  rfl

theorem State.stepDue_iff (s : State) :
    s.stepDue = true ↔ ∃ st ∈ s.steps.held.head?, isAfter st.due s.time.networkTime = false := by
  unfold State.stepDue
  split <;> simp_all

/-- Settles O6: settling ends because each expiry taken leaves fewer steps and fewer other expiries outstanding. -/
theorem nothingOutstandingAfterSettling : Obligations.NothingOutstandingAfterSettling := by
  unfold Obligations.NothingOutstandingAfterSettling
  intro s
  refine ⟨fun high => ?_, fun e => ?_, fun none => ?_, fun banks time due => ?_, fun banks time => ?_⟩
  · simp [exec, execTickEvent, State.tick, high]
  · rw [s.mem_outstanding]
    cases e with
    | startUp => exact s.startUpDue_iff
    | silence => exact s.silenceDue_iff
    | link | mark | holdover => exact beq_iff_eq
    | due => exact s.stepDue_iff
    | deadTime id => simp [State.isDue, Bank.transitionDue, Option.any_eq_true]
    | pulse id i => exact Bank.pulseDue_iff _ i
    | cadence id i => exact Bank.edgeDue_iff _ i
  · rw [State.settle, State.settleUpTo_of_settled _ none]
    rfl
  · obtain ⟨e, mem, k, one, taken⟩ := State.settleOne_takes due
    refine ⟨e, mem, k, one, _, exec_expiry_command e _, ?_⟩
    rw [← taken]
    exact State.settle_eq_settleOne ⟨banks, time⟩ due
  · exact ⟨State.settle_outstanding ⟨banks, time⟩, State.leaveBypass_mayLeaveBypass _⟩

end Sys2Proof.Machine
end

section
/-! The statement about the order of the Step Queue at every step (R84): due times are read as distances from network time, and
everything that moves network time moves the distances alike. -/

namespace Sys2Proof.Machine

/-! ## Due times as distances (0.7) -/

/-- A due time as a distance from one tick before a time. -/
def reachFrom (now due : Word32) : Nat := (due - now + 1).toNat

theorem State.reach_eq (s : State) (st : Step) : s.reach st = reachFrom s.time.networkTime st.due := rfl

/-- The limit of a distance in the queue: 2^29 ticks ahead. -/
def reachLimit : Nat := 536870913

theorem toNat_of_toInt_pos {x : Word32} (h : 0 < x.toInt) : 0 < x.toNat ∧ x.toNat ≤ 2147483647 := by
  rw [BitVec.toInt_eq_toNat_cond] at h
  split at h <;> omega

theorem toNat_of_toInt_neg {x : Word32} (h : x.toInt < 0) : 2147483648 ≤ x.toNat := by
  rw [BitVec.toInt_eq_toNat_cond] at h
  split at h <;> omega

/-- In the queue's range a later due time is one of greater distance. -/
theorem isAfter_iff_reachFrom {now due due' : Word32} (h : reachFrom now due ≤ reachLimit)
    (h' : reachFrom now due' ≤ reachLimit) : isAfter due due' = true ↔ reachFrom now due' < reachFrom now due := by
  rw [isAfter_iff]
  unfold reachFrom reachLimit at *
  bv_omega

theorem isAfter_now_iff_reachFrom {now due : Word32} (h : reachFrom now due ≤ reachLimit) :
    isAfter due now = true ↔ 2 ≤ reachFrom now due := by
  rw [isAfter_iff]
  unfold reachFrom reachLimit at *
  bv_omega

/-- A step accepted ahead within ACCEPT-WINDOW lies in the queue's range (R88, R89). -/
theorem reachFrom_of_accepted {now due : Word32} {window : Nat} (ahead : distanceAhead due now ≤ window)
    (range : window ≤ 536870912) : reachFrom now due ≤ reachLimit := by
  unfold distanceAhead at ahead
  unfold reachFrom reachLimit
  bv_omega

/-- A forward step takes its amount off the distance of a step it does not overtake. -/
theorem reachFrom_forward {now x due : Word32} (far : (x - now).toNat + 2 ≤ reachFrom now due) :
    reachFrom x due = reachFrom now due - (x - now).toNat := by
  unfold reachFrom at *
  bv_omega

theorem isAfter_of_forward {now x due : Word32} (forward : 0 < (x - now).toInt) (h : reachFrom now due ≤ reachLimit)
    (ahead : isAfter due x = true) : (x - now).toNat + 2 ≤ reachFrom now due := by
  obtain ⟨_, _⟩ := toNat_of_toInt_pos forward
  rw [isAfter_iff] at ahead
  unfold reachFrom reachLimit at *
  bv_omega

/-- A backward step adds its amount to every distance. -/
theorem reachFrom_backward {now x due : Word32} (backward : (x - now).toInt < 0) (h : reachFrom now due ≤ reachLimit) :
    reachFrom x due = reachFrom now due + (now - x).toNat ∧ reachFrom x due = distanceAhead due x + 1 := by
  have := toNat_of_toInt_neg backward
  unfold reachFrom reachLimit distanceAhead at *
  bv_omega

/-- A tick of at most two takes as much off the distance of a step that is not due. -/
theorem reachFrom_tick {now k due : Word32} (small : k.toNat ≤ 2) (ahead : 2 ≤ reachFrom now due) :
    reachFrom (now + k) due = reachFrom now due - k.toNat := by
  unfold reachFrom at *
  bv_omega

/-! ## Ordered queues (R84) -/

/-- Steps in order of due time, within range of a time. -/
def OrderedFrom (now : Word32) (held : List Step) : Prop :=
  (∀ st ∈ held, reachFrom now st.due ≤ reachLimit)
    ∧ held.Pairwise fun a b => reachFrom now a.due ≤ reachFrom now b.due

theorem State.queueOrder_iff (s : State) :
    s.QueueOrder ↔ s.steps.held.length ≤ 64 ∧ OrderedFrom s.time.networkTime s.steps.held := Iff.rfl

theorem OrderedFrom.sublist {now : Word32} {held kept : List Step} (h : OrderedFrom now held) (left : kept.Sublist held) :
    OrderedFrom now kept :=
  ⟨fun st mem => h.1 st (left.subset mem), h.2.sublist left⟩

/-- The order stays when all distances move by one monotone map that keeps the range. -/
theorem OrderedFrom.moved {now now' : Word32} {held : List Step} (h : OrderedFrom now held) (f : Nat → Nat)
    (moves : ∀ st ∈ held, reachFrom now' st.due = f (reachFrom now st.due))
    (range : ∀ st ∈ held, reachFrom now' st.due ≤ reachLimit) (mono : Monotone f) : OrderedFrom now' held := by
  refine ⟨range, h.2.imp_of_mem fun {a b} ha hb le => ?_⟩
  rw [moves a ha, moves b hb]
  exact mono le

theorem OrderedFrom.insertStep {now : Word32} {st : Step} {held : List Step} (h : OrderedFrom now held)
    (range : reachFrom now st.due ≤ reachLimit) : OrderedFrom now (insertStep st held) := by
  refine ⟨fun x mem => ?_, ?_⟩
  · rcases (mem_insertStep x st held).1 mem with rfl | old
    · exact range
    · exact h.1 x old
  · induction held with
    | nil => simp [Machine.insertStep]
    | cons a t ih =>
      obtain ⟨limit, order⟩ := h
      obtain ⟨least, rest⟩ := List.pairwise_cons.1 order
      have later := isAfter_iff_reachFrom (limit a (by simp)) range
      unfold Machine.insertStep
      split
      next before =>
        have below := later.1 before
        refine List.pairwise_cons.2 ⟨fun x mem => ?_, order⟩
        rcases List.mem_cons.1 mem with rfl | mem
        · exact below.le
        · exact below.le.trans (least x mem)
      next behind =>
        have below := Nat.le_of_not_lt (mt later.2 behind)
        refine List.pairwise_cons.2 ⟨fun x mem => ?_, ih ⟨fun x mem => limit x (List.mem_cons_of_mem _ mem), rest⟩⟩
        rcases (mem_insertStep x st t).1 mem with rfl | mem
        · exact below
        · exact least x mem

/-- In an ordered queue, what is left behind the overtaken steps lies ahead of the new time (R96). -/
theorem OrderedFrom.dropWhile_ahead {now x : Word32} {held : List Step} (h : OrderedFrom now held)
    (forward : 0 < (x - now).toInt) :
    ∀ st ∈ held.dropWhile fun st => !isAfter st.due x, (x - now).toNat + 2 ≤ reachFrom now st.due := by
  induction held with
  | nil => simp
  | cons a t ih =>
    obtain ⟨limit, order⟩ := h
    obtain ⟨least, rest⟩ := List.pairwise_cons.1 order
    cases ahead : isAfter a.due x with
    | false =>
      simpa [ahead] using ih ⟨fun st mem => limit st (List.mem_cons_of_mem _ mem), rest⟩
    | true =>
      have far := isAfter_of_forward forward (limit a (by simp)) ahead
      intro st mem
      simp only [ahead, Bool.not_true, Bool.false_eq_true, not_false_eq_true, List.dropWhile_cons_of_neg,
        List.mem_cons] at mem
      rcases mem with rfl | mem
      · exact far
      · exact far.trans (least st mem)

/-- A queue whose head is not due holds no due step. -/
theorem OrderedFrom.ahead {now : Word32} {held : List Step} (h : OrderedFrom now held)
    (head : ∀ st ∈ held.head?, isAfter st.due now = true) : ∀ st ∈ held, 2 ≤ reachFrom now st.due := by
  cases held with
  | nil => simp
  | cons a t =>
    obtain ⟨limit, order⟩ := h
    have first := (isAfter_now_iff_reachFrom (limit a (by simp))).1 (head a (by simp))
    intro st mem
    rcases List.mem_cons.1 mem with rfl | mem
    · exact first
    · exact first.trans ((List.pairwise_cons.1 order).1 st mem)

/-! ## What keeps the order -/

variable {s : State}

theorem State.QueueOrder.of_shrinks {t : State} (h : s.QueueOrder) (now : t.time.networkTime = s.time.networkTime)
    (left : t.steps.held.Sublist s.steps.held) : t.QueueOrder := by
  obtain ⟨room, order⟩ := s.queueOrder_iff.1 h
  exact t.queueOrder_iff.2 ⟨left.length_le.trans room, now ▸ order.sublist left⟩

theorem State.queueOrder_of_empty (empty : s.steps.held = []) : s.QueueOrder := by
  refine s.queueOrder_iff.2 ?_
  rw [empty]
  exact ⟨Nat.zero_le _, by simp, .nil⟩

/-- The queue after a step of network time, its state given with the new time (R96, R97). -/
theorem State.queueTimeStep_held (s : State) (amount : Int) :
    (s.queueTimeStep amount).steps.held =
      if 0 < amount then s.steps.held.dropWhile fun st => !isAfter st.due s.time.networkTime
      else if amount < 0 then
        s.steps.held.filter fun st => distanceAhead st.due s.time.networkTime ≤ s.steps.acceptWindow
      else s.steps.held := by
  unfold State.queueTimeStep
  split_ifs
  · exact State.overtakeAll_held _ _
  · simp [State.backwardStep]
  · rfl

theorem OrderedFrom.timeStep {now x : Word32} {held : List Step} (h : OrderedFrom now held) {window : Nat}
    (range : window ≤ 536870912) :
    OrderedFrom x
      (if 0 < (x - now).toInt then held.dropWhile fun st => !isAfter st.due x
      else if (x - now).toInt < 0 then held.filter fun st => distanceAhead st.due x ≤ window
      else held) := by
  split_ifs with forward backward
  · have ahead := h.dropWhile_ahead forward
    have kept := h.sublist (List.dropWhile_sublist fun st => !isAfter st.due x)
    refine kept.moved (· - (x - now).toNat) (fun st mem => reachFrom_forward (ahead st mem)) (fun st mem => ?_)
      fun a b le => Nat.sub_le_sub_right le _
    rw [reachFrom_forward (ahead st mem)]
    exact (Nat.sub_le _ _).trans (kept.1 st mem)
  · have kept := h.sublist (List.filter_sublist (p := fun st => decide (distanceAhead st.due x ≤ window)))
    refine kept.moved (· + (now - x).toNat) (fun st mem => (reachFrom_backward backward (kept.1 st mem)).1)
      (fun st mem => ?_) fun a b le => Nat.add_le_add_right le _
    have near : distanceAhead st.due x ≤ window := by simpa using (List.mem_filter.1 mem).2
    rw [(reachFrom_backward backward (kept.1 st mem)).2, reachLimit]
    omega
  · have same : x = now := by
      have zero : (x - now).toInt = 0 := by omega
      have := BitVec.eq_of_toInt_eq (zero.trans BitVec.toInt_zero.symm)
      bv_omega
    rwa [same]

theorem State.stepTime_queueOrder (x : Word32) (e : Octet) (entered : SyncState) (good : Nat) (h : s.QueueOrder)
    (range : Param.acceptWindow.inRange s.steps.acceptWindow) : (s.stepTime x e entered good).QueueOrder := by
  obtain ⟨room, order⟩ := s.queueOrder_iff.1 h
  have left := (s.stepTime_shrinks x e entered good).1.length_le
  refine (State.queueOrder_iff _).2 ⟨left.trans room, ?_⟩
  rw [State.stepTime_time]
  obtain ⟨l, stepped⟩ := s.stepTime_eq x e entered good
  rw [stepped, State.queueTimeStep_held]
  exact order.timeStep range.2

theorem State.takeMark_queueOrder (m : Word32) (e hops : Octet) (h : s.QueueOrder)
    (range : Param.acceptWindow.inRange s.steps.acceptWindow) : (s.takeMark m e hops).QueueOrder := by
  rw [s.takeMark_eq]
  rcases s.judgeMark_cases (s.time.expected m hops) e with ⟨y, g, _, j⟩ | ⟨o, _, _, _, j⟩ | ⟨_, _, j⟩ | ⟨_, j⟩ <;> rw [j]
  · exact State.stepTime_queueOrder _ _ _ _ h range
  · exact h.of_shrinks (by simp [Timebase.lockedOn]) (by simp)
  · exact h.of_shrinks rfl (.refl _)
  · exact h.of_shrinks rfl (.refl _)

theorem State.offerStep_queueOrder (st : Step) (h : s.QueueOrder)
    (range : Param.acceptWindow.inRange s.steps.acceptWindow) : (s.offerStep st).QueueOrder := by
  rcases s.offerStep_cases st with ⟨_, _, rejected⟩ | ⟨passed, accepted⟩
  · rw [rejected]; exact h.of_shrinks rfl (.refl _)
  · obtain ⟨_, _, _, _, room, near, _⟩ := s.rejection_none st passed
    rw [accepted, State.acceptStep]
    dsimp only
    split
    next ahead =>
      obtain ⟨_, order⟩ := s.queueOrder_iff.1 h
      refine (State.queueOrder_iff _).2 ⟨?_, order.insertStep (reachFrom_of_accepted (near ahead) range.2)⟩
      rw [insertStep_length]
      exact room
    next => split <;> exact h.of_shrinks rfl (.refl _)

/-- Once nothing is due, a tick of at most two passes no step (R64, R93). -/
theorem State.advance_queueOrder (h : s.QueueOrder) (notDue : s.stepDue = false) : s.advance.QueueOrder := by
  obtain ⟨room, order⟩ := s.queueOrder_iff.1 h
  have head : ∀ st ∈ s.steps.held.head?, isAfter st.due s.time.networkTime = true := by
    intro st mem
    by_contra due
    have := s.stepDue_iff.2 ⟨st, mem, by simpa using due⟩
    rw [notDue] at this
    cases this
  have ahead := order.ahead head
  have small : s.time.advance.toNat ≤ 2 := by
    unfold Timebase.advance
    split_ifs <;> decide
  refine (State.queueOrder_iff _).2 ⟨room, ?_⟩
  refine order.moved (· - s.time.advance.toNat) (fun st mem => reachFrom_tick small (ahead st mem)) (fun st mem => ?_)
    fun a b le => Nat.sub_le_sub_right le _
  have moved := reachFrom_tick small (ahead st mem)
  exact moved.trans_le ((Nat.sub_le _ _).trans (order.1 st mem))

theorem State.worked_queueOrder {t : State} (w : s.Worked t) (h : s.QueueOrder) : t.QueueOrder := by
  cases w with
  | disarmed => exact h.of_shrinks (by simp) (by simp)
  | cancelled tag => exact h.of_shrinks rfl (s.cancelTag_shrinks tag).1
  | flushed set => exact h.of_shrinks (by simp [State.flushBanks]) (s.flushBanks_shrinks set).1
  | softReset => exact h.of_shrinks (by simp) s.softReset_shrinks.1
  | param p value => cases p <;> exact h.of_shrinks rfl (.refl _)
  | nothing | entry | armed | lineStatic | lineCadence | fetched | acknowledged => exact h.of_shrinks rfl (.refl _)

theorem State.takeExpiry_networkTime (s : State) (e : Expiry) :
    (s.takeExpiry e).time.networkTime = s.time.networkTime := by
  have lost : s.enterUnsynced.time.networkTime = s.time.networkTime := by rw [s.enterUnsynced_parts.1]
  cases e with
  | mark =>
    simp only [State.takeExpiry, State.expireMarkTimer]
    split
    · split
      · exact lost
      all_goals rfl
    · rfl
  | holdover =>
    simp only [State.takeExpiry, State.expireHoldoverTimer]
    split
    · split
      · exact lost
      all_goals rfl
    · rfl
  | link =>
    rcases s.expireLinkTimer_cases with ⟨_, idle⟩ | ⟨_, down⟩
    · rw [State.takeExpiry, idle]
    · rw [State.takeExpiry, down]; simp
  | startUp | silence | due | deadTime id | pulse id i | cadence id i => simp [State.takeExpiry]

theorem State.takeExpiry_queueOrder (e : Expiry) (h : s.QueueOrder) : (s.takeExpiry e).QueueOrder :=
  h.of_shrinks (s.takeExpiry_networkTime e) (s.takeExpiry_shrinks e).1

/-- The queue's order with the laws that settling needs and that bound ACCEPT-WINDOW. -/
abbrev State.OrderedQueue (s : State) : Prop := s.QueueOrder ∧ s.TimeLaw ∧ s.BankLaw

/-- Every operation but a tick keeps the order, beside what it keeps of the other two laws. -/
theorem orderedQueue_controlKept : ControlKept State.OrderedQueue := by
  have time := timeLaw_controlInvariant
  have bank := bankLaw_controlInvariant
  exact {
    congr := fun {s t} ⟨order, timed, banked⟩ same => by
      refine ⟨?_, time.congr timed same, bank.congr banked same⟩
      injection same with _ times steps
      exact order.of_shrinks (by rw [times]) (by rw [steps])
    fell := fun s ⟨_, timed, banked⟩ => ⟨State.queueOrder_of_empty rfl, time.fell s timed, bank.fell s banked⟩
    rose := fun s straps ⟨_, timed, banked⟩ =>
      ⟨State.queueOrder_of_empty rfl, time.rose s straps timed, bank.rose s straps banked⟩
    restarted := fun s straps ⟨_, timed, banked⟩ =>
      ⟨State.queueOrder_of_empty rfl, time.restarted s straps timed, bank.restarted s straps banked⟩
    reported := fun s r one ⟨order, timed, banked⟩ =>
      ⟨order.of_shrinks rfl (.refl _), time.reported s r one timed, bank.reported s r one banked⟩
    linkedUp := fun s ⟨order, timed, banked⟩ =>
      ⟨order.of_shrinks rfl (.refl _), time.linkedUp s timed, bank.linkedUp s banked⟩
    marked := fun s m e hops ⟨order, timed, banked⟩ =>
      ⟨State.takeMark_queueOrder m e hops order timed.1.1, time.marked s m e hops timed, bank.marked s m e hops banked⟩
    sequenced := fun s i q enabled ⟨order, timed, banked⟩ =>
      ⟨order.of_shrinks rfl (.refl _), time.sequenced s i q enabled timed, bank.sequenced s i q enabled banked⟩
    offered := fun s st wide ⟨order, timed, banked⟩ =>
      ⟨State.offerStep_queueOrder st order timed.1.1, time.offered s st wide timed, bank.offered s st wide banked⟩
    disarmed := fun s ⟨order, timed, banked⟩ =>
      ⟨order.of_shrinks (by simp) (by simp), time.disarmed s timed, bank.disarmed s banked⟩
    worked := fun s t w ⟨order, timed, banked⟩ =>
      ⟨State.worked_queueOrder w order, time.worked s t w timed, bank.worked s t w banked⟩
    linkLost := fun s ⟨order, timed, banked⟩ =>
      ⟨State.takeExpiry_queueOrder .link order, time.linkLost s timed, bank.linkLost s banked⟩
    markLost := fun s ⟨order, timed, banked⟩ =>
      ⟨State.takeExpiry_queueOrder .mark order, time.markLost s timed, bank.markLost s banked⟩
    holdoverLost := fun s ⟨order, timed, banked⟩ =>
      ⟨State.takeExpiry_queueOrder .holdover order, time.holdoverLost s timed, bank.holdoverLost s banked⟩
    fellDue := fun s ⟨order, timed, banked⟩ =>
      ⟨State.takeExpiry_queueOrder .due order, time.fellDue s timed, bank.fellDue s banked⟩
    transitioned := fun s id ⟨order, timed, banked⟩ =>
      ⟨State.takeExpiry_queueOrder (.deadTime id) order, time.transitioned s id timed, bank.transitioned s id banked⟩
    reverted := fun s id i ⟨order, timed, banked⟩ =>
      ⟨State.takeExpiry_queueOrder (.pulse id i) order, time.reverted s id i timed, bank.reverted s id i banked⟩
    edged := fun s id i ⟨order, timed, banked⟩ =>
      ⟨State.takeExpiry_queueOrder (.cadence id i) order, time.edged s id i timed, bank.edged s id i banked⟩ }

/-- A tick settles what is due first, and then counts. -/
theorem State.tick_orderedQueue (h : s.OrderedQueue) : s.tick.OrderedQueue := by
  unfold State.tick
  split
  · obtain ⟨order, timed, banked⟩ := orderedQueue_controlKept.settle h
    have notDue : s.settle.stepDue = false := by
      by_contra due
      have held : Expiry.due ∈ s.settle.outstanding := (State.mem_outstanding _ _).2 (by simpa [State.isDue] using due)
      rw [State.settle_outstanding ⟨h.2.2, h.2.1⟩] at held
      cases held
    exact ⟨State.advance_queueOrder order notDue, timeLaw_controlInvariant.advanced _ timed,
      bankLaw_controlInvariant.advanced _ banked⟩
  · exact h

/-- Settles O52: steps of network time and ticks move all distances alike, and a tick comes after the due steps are gone. -/
theorem everyStepKeepsTheQueueInOrder : Obligations.EveryStepKeepsTheQueueInOrder := by
  unfold Obligations.EveryStepKeepsTheQueueInOrder
  intro s t order timed banked run
  have kept (c : Instr) (s t : State) (h : s.OrderedQueue) (run : exec c s = .next t) : t.OrderedQueue :=
    orderedQueue_controlKept.exec (fun _ => State.tick_orderedQueue) h run
  exact (step_keeps (P := State.OrderedQueue) (fun _ _ h => h) kept s t ⟨order, timed, banked⟩ run).1

end Sys2Proof.Machine
end

section
/-! The statements about whole frames: their octets and CHECK (R7, R9, R12), their rows, and where classification takes them
(R21 to R35, R51). -/

namespace Sys2Proof.Machine

/-! ## The check sequence, bit by bit (R9) -/

/-- The register of R9 after one more bit of the message. -/
def crcShift (r : Word16) (bit : Bool) : Word16 :=
  if r.msb = bit then r <<< 1 else (r <<< 1) ^^^ BitVec.ofNat 16 (2 ^ 12 + 2 ^ 5 + 1)

/-- The bits of an octet in the order they are sent. -/
def octetBits (o : Octet) : List Bool :=
  [o.getLsbD 7, o.getLsbD 6, o.getLsbD 5, o.getLsbD 4, o.getLsbD 3, o.getLsbD 2, o.getLsbD 1, o.getLsbD 0]

/-- The register is linear in what it holds. -/
theorem crcShift_xor (a b : Word16) (bit : Bool) : crcShift (a ^^^ b) bit = crcBit a ^^^ crcShift b bit := by
  have shifted (x : Word16) (bit : Bool) : crcShift x bit = crcBit x ^^^ (if bit then 0x1021#16 else 0) := by
    unfold crcShift crcBit
    cases x.msb <;> cases bit <;> simp
  rw [shifted, shifted, crcBit_xor, BitVec.xor_assoc]

theorem foldl_crcShift_xor (bits : List Bool) (a b : Word16) :
    bits.foldl crcShift (a ^^^ b) = crcBit^[bits.length] a ^^^ bits.foldl crcShift b := by
  induction bits generalizing a b with
  | nil => rfl
  | cons bit bits ih =>
    rw [List.foldl_cons, crcShift_xor, ih, List.foldl_cons, List.length_cons, Function.iterate_succ_apply]

/-- An octet is fed into the register bit by bit, most significant bit first. -/
theorem crcOctet_eq_foldl (r : Word16) (o : Octet) : crcOctet r o = (octetBits o).foldl crcShift r := by
  have fromZero : ∀ o : Octet, crcBit^[8] (o ++ 0#8) = (octetBits o).foldl crcShift 0 := by decide +kernel
  have eight (x : Word16) : crcBit (crcBit (crcBit (crcBit (crcBit (crcBit (crcBit (crcBit x))))))) = crcBit^[8] x := rfl
  have linear (n : Nat) (a b : Word16) : crcBit^[n] (a ^^^ b) = crcBit^[n] a ^^^ crcBit^[n] b := by
    induction n generalizing a b with
    | zero => rfl
    | succ n ih => rw [Function.iterate_succ_apply, crcBit_xor, ih]; rfl
  calc crcOctet r o = crcBit^[8] (r ^^^ (o ++ 0#8)) := eight _
    _ = crcBit^[8] r ^^^ (octetBits o).foldl crcShift 0 := by rw [linear, fromZero]
    _ = (octetBits o).foldl crcShift (r ^^^ 0#16) := (foldl_crcShift_xor (octetBits o) r 0).symm
    _ = (octetBits o).foldl crcShift r := by rw [BitVec.xor_zero]

theorem crc_eq_foldl (octets : List Octet) : crc octets = (octets.flatMap octetBits).foldl crcShift 0xFFFF := by
  have step : crcOctet = fun r o => (octetBits o).foldl crcShift r :=
    funext fun r => funext fun o => crcOctet_eq_foldl r o
  rw [List.foldl_flatMap, crc, step]
  rfl

/-- Settles O14: the register is linear, so an octet's eight bits do to it what the octet does. -/
theorem frameReadsBackFromItsOctets : Obligations.FrameReadsBackFromItsOctets := by
  unfold Obligations.FrameReadsBackFromItsOctets
  refine ⟨crc_eq_foldl, fun f => ?_, fun f fits => ⟨f.onLink_lengthGood fits, ?_, f.bufferOf_onLink fits⟩⟩
  · exact congrArg (fun check => f.octets ++ octets16 check) (crc_eq_foldl f.octets)
  · simpa [checkGood] using f.onLink_checkGood

/-! ## Rows named after frames (log entry 11) -/

/-- Octets that arrive one after another are the run of their commands. -/
theorem runs_dataOctets (octets : List Octet) (s : State) :
    Runs (octets.map .dataOctet) s (octets.foldl (fun t o => t.receive (.data o)) s) := by
  induction octets generalizing s with
  | nil => rfl
  | cons o os ih => exact ⟨_, rfl, ih _⟩

/-- Settles O15: a frame that can be received is classified whole; each row is defined as its frame. -/
theorem wholeFrameIsClassified : Obligations.WholeFrameIsClassified := by
  unfold Obligations.WholeFrameIsClassified
  refine ⟨fun s f ready fits => State.receiveFrame_ready ready f fits, fun s f => ?_, ?_⟩
  · have opened : Runs [.openSymbol] s (s.receive .openSymbol) := ⟨_, rfl, rfl⟩
    exact runs_append (runs_append opened (runs_dataOctets f.onLink _)) ⟨_, rfl, rfl⟩
  · intro s h a b c p q w payload
    refine ⟨rfl, rfl, fun broadcast => ?_, rfl, rfl, rfl, rfl, rfl, rfl, rfl, rfl, rfl, rfl, rfl, rfl, rfl, rfl, rfl, rfl, rfl⟩
    rw [broadcast]
    rfl

/-! ## Where a frame goes (R21 to R28) -/

variable {s : State} {f : Frame}

/-- A buffer claimed for a frame is FREE again when it is returned. -/
theorem State.release_atClose (ready : s.ReadyForFrame) :
    (s.atClose f).pool.free + 1 = s.pool.free :=
  Nat.sub_add_cancel ready.2.2

theorem State.receiveFrame_own (ready : s.ReadyForFrame) (fits : f.payload.length ≤ 96)
    (own : s.table.unitAddress = some f.src) : s.receiveFrame f = (s.atClose f).strip f := by
  have own' : (s.atClose f).table.unitAddress = some f.received.frame.src := own
  rw [State.receiveFrame_ready ready f fits, State.classify, if_pos own']
  rfl

theorem State.receiveFrame_foreign (ready : s.ReadyForFrame) (fits : f.payload.length ≤ 96)
    (other : s.table.unitAddress ≠ some f.src) (foreign : f.dest = 0 ∨ s.table.matching f.dest = none) :
    s.receiveFrame f = (s.atClose f).repeatFrame f.received := by
  have other' : (s.atClose f).table.unitAddress ≠ some f.received.frame.src := other
  rw [State.receiveFrame_ready ready f fits, State.classify, if_neg other']
  split
  · rfl
  next notHead =>
    have unmatched : (s.atClose f).table.matching f.received.frame.dest = none := foreign.resolve_left notHead
    rw [unmatched]

/-- A frame that matches an entry is taken by the unit's rules or by those of the many. -/
theorem State.receiveFrame_matched (ready : s.ReadyForFrame) (fits : f.payload.length ≤ 96)
    (other : s.table.unitAddress ≠ some f.src) (notHead : f.dest ≠ 0) {i : Fin 9}
    (matched : s.table.matching f.dest = some i) :
    s.receiveFrame f
      = if i = 0 then (s.atClose f).classifyUnit f.received else (s.atClose f).classifyMany i f.received := by
  have other' : (s.atClose f).table.unitAddress ≠ some f.received.frame.src := other
  have notHead' : f.received.frame.dest ≠ 0 := notHead
  have matched' : (s.atClose f).table.matching f.received.frame.dest = some i := matched
  rw [State.receiveFrame_ready ready f fits, State.classify, if_neg other', if_neg notHead', matched']

/-! ## Own and foreign frames (R22, R23, R30 to R34) -/

/-- Repeating a received frame sends the frame with HOPS less one, a mark rewritten (R31, R32). -/
theorem State.repeatFrame_received (t : State) (f : Frame) (alive : f.hops ≠ 0) :
    t.repeatFrame f.received
      = ({ t with rx.framesRepeated := t.rx.framesRepeated + 1 }).joinRepeat
          { frame := f.repeated t.events.attention, check := (f.repeated t.events.attention).checkOf
            checkCurrent := true, resetReply := false } := by
  rw [State.repeatFrame, if_neg (show f.received.frame.hops ≠ 0 from alive)]
  rfl

theorem Frame.kindOf_timeMark (f : Frame) (mark : f.kindOf = .timeMark) : f.payload.length = 7 := by
  unfold Frame.kindOf at mark
  split_ifs at mark
  assumption

/-- Settles O16: own frames are stripped, and frames for nobody here are repeated or expire. -/
theorem foreignFramesAreRepeated : Obligations.ForeignFramesAreRepeated := by
  unfold Obligations.ForeignFramesAreRepeated
  intro s f ready fits t up payload sent
  have free := State.release_atClose (f := f) ready
  refine ⟨fun own => ?_, fun other foreign alive => ?_, fun other foreign spent => ?_⟩
  · rw [State.receiveFrame_own ready fits own, State.strip, State.release, ← free]
    rfl
  · have rewritten : f.repeated s.events.attention = sent := by
      have body : (if f.kindOf = .timeMark then rewrittenMark s.events.attention f.payload else f.payload) = payload := by
        by_cases mark : f.kindOf = .timeMark
        · have seven := f.kindOf_timeMark mark
          simp only [payload, mark, if_true]
          match f.payload, seven with
          | [_, _, _, _, _, _, _], _ => rfl
        · simp only [payload, if_neg mark]
          split
          · exact absurd ‹f.kindOf = .timeMark› mark
          · rfl
      rw [Frame.repeated, body]
    rw [State.receiveFrame_foreign ready fits other foreign, State.repeatFrame_received _ f alive]
    have attention : t.events.attention = s.events.attention := rfl
    rw [attention, rewritten]
    rfl
  · rw [State.receiveFrame_foreign ready fits other foreign, State.repeatFrame,
      if_pos (show f.received.frame.hops = 0 from spent), State.release, ← free]
    rfl

/-! ## Frames that an entry does not take (R25 to R27, R29, R51) -/

theorem AddressTable.Law.matching_iff {t : AddressTable} (law : t.Law) (d : Octet) (i : Fin 9) :
    t.matching d = some i ↔ t.entries[i].address = some d := by
  obtain ⟨_, distinct, _, _⟩ := law
  refine ⟨AddressTable.address_of_matching, fun holds => ?_⟩
  cases found : t.matching d with
  | none => exact absurd holds (by simpa using List.find?_eq_none.1 found i (List.mem_finRange i))
  | some j =>
    by_contra other
    have different : i ≠ j := fun same => other (by rw [same])
    exact distinct i j different d holds (AddressTable.address_of_matching found)

theorem AddressTable.matching_none_iff (t : AddressTable) (d : Octet) :
    t.matching d = none ↔ ∀ j : Fin 9, t.entries[j].address ≠ some d := by
  simp [AddressTable.matching]

/-- No entry holds the address of the head. -/
theorem AddressTable.Law.matching_zero {t : AddressTable} (law : t.Law) : t.matching 0 = none := by
  obtain ⟨_, _, allowed, _⟩ := law
  refine (t.matching_none_iff 0).2 fun j holds => ?_
  have legal := allowed j 0 holds
  unfold addressAllowed at legal
  split at legal
  · exact absurd legal (by decide)
  · exact legal.1 rfl

theorem Frame.kindOf_eq (f : Frame) : f.kindOf =
    if f.kind = 0x51 ∧ f.payload.length = 7 then .timeMark
    else if f.kind = 0x52 then .schedule
    else if f.kind = 0x53 then .command
    else if f.kind = 0x54 then .reply
    else .unknown := by
  unfold Frame.kindOf kindTimeMark kindSchedule kindCommand kindReply
  by_cases mark : f.kind = 0x51
  · by_cases seven : f.payload.length = 7 <;> simp [mark, seven]
  · rw [if_neg mark, if_neg (not_and_of_not_left _ mark)]

/-- What the unit's rules make of a frame, by its kind (R24, R25). -/
theorem State.classifyUnit_strange (t : State) (f : Frame) (strange : f.kindOf = .reply ∨ f.kindOf = .unknown) :
    t.classifyUnit f.received = t.release.reportUnexpected .unit f := by
  have kind : f.received.frame.kindOf = f.kindOf := rfl
  rcases strange with h | h <;> simp only [State.classifyUnit, kind, h] <;> rfl

theorem State.classifyMany_strange (t : State) (i : Fin 9) (f : Frame)
    (strange : f.kindOf = .reply ∨ f.kindOf = .unknown) :
    t.classifyMany i f.received = t.repeatFrame f.received := by
  have kind : f.received.frame.kindOf = f.kindOf := rfl
  rcases strange with h | h <;> simp only [State.classifyMany, kind, h]

theorem State.classifyMany_command (t : State) (i : Fin 9) (f : Frame) (command : f.kindOf = .command) :
    t.classifyMany i f.received = (t.offerManyCommand i f).repeatFrame f.received := by
  have kind : f.received.frame.kindOf = f.kindOf := rfl
  simp only [State.classifyMany, kind, command]
  rfl

/-- A frame that its entry's flags refuse is counted as filtered (R51). -/
theorem State.classifyUnit_refused (t : State) (f : Frame)
    (refused : f.kindOf = .timeMark ∧ t.table.entries[(0 : Fin 9)].acceptMark = false
      ∨ f.kindOf = .schedule ∧ t.table.entries[(0 : Fin 9)].acceptSchedule = false) :
    t.classifyUnit f.received = t.countFiltered.release := by
  have kind : f.received.frame.kindOf = f.kindOf := rfl
  rcases refused with ⟨h, closed⟩ | ⟨h, closed⟩
  · have closed' : t.table.entries[0].acceptMark = false := closed
    simp [State.classifyUnit, kind, h, State.offerMark, closed']
  · have closed' : t.table.entries[0].acceptSchedule = false := closed
    simp [State.classifyUnit, kind, h, State.offerScheduleFrame, closed']

theorem State.classifyMany_refused (t : State) (i : Fin 9) (f : Frame)
    (refused : f.kindOf = .timeMark ∧ t.table.entries[i].acceptMark = false
      ∨ f.kindOf = .schedule ∧ t.table.entries[i].acceptSchedule = false) :
    t.classifyMany i f.received = t.countFiltered.repeatFrame f.received := by
  have kind : f.received.frame.kindOf = f.kindOf := rfl
  rcases refused with ⟨h, closed⟩ | ⟨h, closed⟩
  · simp only [State.classifyMany, kind, h, State.offerMark, closed, Bool.false_eq_true, if_false]
  · simp only [State.classifyMany, kind, h, State.offerScheduleFrame, closed, Bool.false_eq_true, if_false]

theorem Frame.unexpectedCode_command (f : Frame) (command : f.kindOf = .command) :
    f.unexpectedCode = f.payload.headD 0 := by
  simp [Frame.unexpectedCode, command, Frame.codeOctet]

theorem Frame.unexpectedCode_strange (f : Frame) (strange : f.kindOf = .reply ∨ f.kindOf = .unknown) :
    f.unexpectedCode = 0 := by
  rcases strange with h | h <;> simp [Frame.unexpectedCode, h]

/-- Settles O17: an entry that matches and does not consume leaves the frame to be discarded or repeated. -/
theorem refusedFramesAreDiscardedOrRepeated : Obligations.RefusedFramesAreDiscardedOrRepeated := by
  unfold Obligations.RefusedFramesAreDiscardedOrRepeated
  refine ⟨fun t d i law => ⟨rfl, law.matching_iff d i, t.matching_none_iff d, law.matching_zero⟩, Frame.kindOf_eq, ?_⟩
  intro s f i ready fits other notHead matched e t refused strange
  have free := State.release_atClose (f := f) ready
  have arrives := State.receiveFrame_matched ready fits other notHead matched
  refine ⟨?_, ?_, fun many closed => ?_, fun many odd => ?_, fun many notBroadcast command => ?_,
    fun broadcast command notDisarm => ?_⟩
  · rintro rfl closed
    rw [arrives, if_pos rfl, State.classifyUnit_refused t f closed, State.release, ← free]
    rfl
  · rintro rfl odd
    rw [arrives, if_pos rfl, State.classifyUnit_strange t f odd, State.reportUnexpected, f.unexpectedCode_strange odd,
      State.release, ← free]
  · rw [arrives, if_neg many, State.classifyMany_refused t i f closed]
    rfl
  · rw [arrives, if_neg many, State.classifyMany_strange t i f odd]
  · rw [arrives, if_neg many, State.classifyMany_command t i f command, State.offerManyCommand, if_neg notBroadcast,
      State.reportUnexpected, f.unexpectedCode_command command]
  · subst broadcast
    have notDisarm' : f.payload ≠ [CommandCode.disarm.octet] := notDisarm
    rw [arrives, if_neg (by decide), State.classifyMany_command t 8 f command, State.offerManyCommand, if_pos rfl,
      if_neg notDisarm', State.reportUnexpected, f.unexpectedCode_command command]

/-! ## Frames that an entry takes (R24, R26, R28, R33) -/

/-- A frame whose kind an entry accepts is used, then discarded at the unit address and repeated otherwise. -/
theorem State.receiveFrame_reaches {h : Header} {i : Fin 9} (reaches : s.Reaches h i) (kind : Octet)
    (payload : List Octet) (fits : payload.length ≤ 96) :
    s.receiveFrame (frameFor h kind payload)
      = if i = 0 then (s.atClose (frameFor h kind payload)).classifyUnit (frameFor h kind payload).received
        else (s.atClose (frameFor h kind payload)).classifyMany i (frameFor h kind payload).received := by
  obtain ⟨ready, other, notHead, matched⟩ := reaches
  exact State.receiveFrame_matched (f := frameFor h kind payload) ready fits other notHead matched

theorem State.takeMarkFrame_markPayload (t : State) (f : Frame) (m : Word32) (epoch hopsTaken attention : Octet)
    (payload : f.payload = markPayload m epoch hopsTaken attention) :
    t.takeMarkFrame f = t.takeMark m epoch hopsTaken := by
  simp [State.takeMarkFrame, payload, markPayload, octets32, word32_of_octets]

/-- Settles O18: through an accepting entry the mark is taken before the frame is passed on. -/
theorem timeMarkIsTaken : Obligations.TimeMarkIsTaken := by
  unfold Obligations.TimeMarkIsTaken
  intro s h i m epoch hopsTaken attention reaches accepts f
  have kind : f.received.frame.kindOf = .timeMark := by rw [Frame.kindOf_eq]; rfl
  have taken (e : AddrEntry) (accepts : e.acceptMark = true) :
      (s.atClose f).offerMark e f = (s.taken f).takeMark m epoch hopsTaken := by
    rw [State.offerMark, if_pos accepts]
    exact State.takeMarkFrame_markPayload _ f m epoch hopsTaken attention rfl
  have arrives : s.receiveFrame f
      = if i = 0 then (s.atClose f).classifyUnit f.received else (s.atClose f).classifyMany i f.received :=
    State.receiveFrame_reaches reaches kindTimeMark (markPayload m epoch hopsTaken attention) (by simp [markPayload])
  refine congrArg Host.Outcome.next (arrives.trans ?_)
  unfold State.passedOn
  split
  next unit =>
    subst unit
    simp only [State.classifyUnit, kind]
    exact congrArg State.release (taken _ accepts)
  next =>
    simp only [State.classifyMany, kind]
    exact congrArg (State.repeatFrame · f.received) (taken _ accepts)

end Sys2Proof.Machine
end

section
/-! The statements about schedules: how their payloads read (R86, R87, R177) and what their frames do (R54); steps of network
time (R96, R97); and broadcast DISARM (R133). -/

namespace Sys2Proof.Machine

/-! ## Control octets (Table 11.4) -/

theorem controlBank_iff (c : Octet) (bank : BankId) :
    controlBank c = some bank ↔ c.toNat % 4 = (match bank with | .a => 0 | .b => 1 | .c => 2) := by
  revert c
  cases bank <;> decide +kernel

theorem controlReserved_iff (c : Octet) : controlReserved c = false ↔ c.toNat < 32 := by
  revert c
  decide +kernel

/-- The control octet of a step says its bank, its mode, its policy, and whether a width follows. -/
theorem Step.control_fields (st : Step) :
    st.control.toNat < 32
      ∧ st.control.toNat % 4 = (match st.bank with | .a => 0 | .b => 1 | .c => 2)
      ∧ st.control.getLsbD 2 = (st.mode == .breakBeforeMake)
      ∧ st.control.getLsbD 3 = (st.policy == .apply)
      ∧ st.control.getLsbD 4 = st.pulse.isSome := by
  have fields : ∀ (bank : BankId) (pulsed applies delays : Bool),
      let c : Octet := 0#3 ++ flagBit pulsed ++ flagBit applies ++ flagBit delays ++ bankCode bank
      c.toNat < 32 ∧ c.toNat % 4 = (match bank with | .a => 0 | .b => 1 | .c => 2)
        ∧ c.getLsbD 2 = delays ∧ c.getLsbD 3 = applies ∧ c.getLsbD 4 = pulsed := by
    intro bank
    cases bank <;> decide
  exact fields st.bank _ _ _

/-! ## Records (Tables 11.3 and 11.4, R86, R177) -/

theorem octets32_of_word32 (o3 o2 o1 o0 : Octet) : octets32 (word32 o3 o2 o1 o0) = [o3, o2, o1, o0] := by
  have high : (word32 o3 o2 o1 o0).extractLsb' 16 16 = word16 o3 o2 := BitVec.extractLsb'_append_eq_left
  have low : (word32 o3 o2 o1 o0).extractLsb' 0 16 = word16 o1 o0 := BitVec.extractLsb'_append_eq_right
  have halves (w : Word32) : octets32 w = octets16 (w.extractLsb' 16 16) ++ octets16 (w.extractLsb' 0 16) := by
    have octet (start : Nat) (small : start + 8 ≤ 16) :
        (w.extractLsb' 16 16).extractLsb' start 8 = w.extractLsb' (16 + start) 8 := by
      ext i hi
      simp [Nat.add_assoc]
      omega
    simp [octets32, octets16, BitVec.extractLsb'_extractLsb'_of_le, octet]
  rw [halves, high, low, octets16_of_word16, octets16_of_word16]
  rfl

/-- The step that the nine leading octets of a record give, its width still to be read. -/
def stepOf (source : Fin 9) (tag : Word16) (due : Word32) (bank : BankId) (c value mask : Octet) (pulse : Option Word16) :
    Step where
  tag := tag
  due := due
  bank := bank
  value := value
  mask := mask
  mode := if c.getLsbD 2 then .breakBeforeMake else .plain
  policy := if c.getLsbD 3 then .apply else .drop
  pulse := pulse
  source := source

/-- Reading a record whose nine leading octets are given. -/
theorem readRecord_leading (source : Fin 9) (tag : Word16) (due : Word32) (c value mask : Octet) (rest : List Octet) :
    readRecord source (octets16 tag ++ octets32 due ++ [c, value, mask] ++ rest) =
      match controlBank c with
      | none => none
      | some bank =>
        if controlReserved c then none
        else if c.getLsbD 4 then
          match rest with
          | w1 :: w0 :: rest' => some (stepOf source tag due bank c value mask (pulseWidth (word16 w1 w0)), rest')
          | _ => none
        else some (stepOf source tag due bank c value mask none, rest) := by
  simp only [octets16, octets32, List.cons_append, List.nil_append, readRecord, word16_of_octets, word32_of_octets]
  rfl

/-- A step with the fields of a control octet is that of its leading octets. -/
theorem stepOf_eq {source : Fin 9} {st : Step} {c : Octet} (mode : st.mode = .breakBeforeMake ↔ c.getLsbD 2 = true)
    (policy : st.policy = .apply ↔ c.getLsbD 3 = true) (from' : st.source = source) :
    stepOf source st.tag st.due st.bank c st.value st.mask st.pulse = st := by
  have modeRead : (if c.getLsbD 2 then TransitionMode.breakBeforeMake else .plain) = st.mode := by
    cases h : st.mode <;> simp_all
  have policyRead : (if c.getLsbD 3 then LatePolicy.apply else .drop) = st.policy := by
    cases h : st.policy <;> simp_all
  rw [stepOf, modeRead, policyRead, ← from']

/-- Too few octets make no record. -/
theorem readRecord_short {source : Fin 9} {octets rest : List Octet} {st : Step}
    (h : readRecord source octets = some (st, rest)) :
    ∃ (tag : Word16) (due : Word32) (c value mask : Octet) (tail : List Octet),
      octets = octets16 tag ++ octets32 due ++ [c, value, mask] ++ tail := by
  unfold readRecord at h
  split at h
  next t1 t0 d3 d2 d1 d0 c value mask tail =>
    exact ⟨word16 t1 t0, word32 d3 d2 d1 d0, c, value, mask, tail, by rw [octets16_of_word16, octets32_of_word32]; rfl⟩
  next => cases h

/-- Reading takes a well-formed record off the front, and only that. -/
theorem readRecord_iff (source : Fin 9) (octets rest : List Octet) (st : Step) :
    readRecord source octets = some (st, rest) ↔ ∃ record, octets = record ++ rest ∧ IsRecordOf source record st := by
  constructor
  · intro h
    obtain ⟨tag, due, c, value, mask, tail, rfl⟩ := readRecord_short h
    rw [readRecord_leading] at h
    split at h
    · cases h
    next bank named =>
      split_ifs at h with reserved wide
      · split at h
        next w1 w0 tail' =>
          cases h
          refine ⟨octets16 tag ++ octets32 due ++ [c, value, mask] ++ [w1, w0], by simp, c, [w1, w0], rfl, ?_, ?_, ?_, ?_,
            rfl, ?_⟩
          · exact (controlReserved_iff c).1 (by simpa using reserved)
          · exact (controlBank_iff c bank).1 named
          · simp [stepOf]
          · simp [stepOf]
          · rw [if_pos wide]
            exact ⟨word16 w1 w0, (octets16_of_word16 w1 w0).symm, rfl⟩
        next => cases h
      · cases h
        refine ⟨octets16 tag ++ octets32 due ++ [c, value, mask], rfl, c, [], (List.append_nil _).symm, ?_, ?_, ?_, ?_, rfl, ?_⟩
        · exact (controlReserved_iff c).1 (by simpa using reserved)
        · exact (controlBank_iff c bank).1 named
        · simp [stepOf]
        · simp [stepOf]
        · rw [if_neg wide]
          exact ⟨rfl, rfl⟩
  · rintro ⟨record, rfl, c, width, rfl, small, bank, mode, policy, from', pulse⟩
    have reserved := (controlReserved_iff c).2 small
    have named := (controlBank_iff c st.bank).2 bank
    have read := stepOf_eq mode policy from'
    rw [List.append_assoc, readRecord_leading, named]
    simp only [reserved, Bool.false_eq_true, if_false]
    split_ifs at pulse ⊢ with wide
    · obtain ⟨w, rfl, given⟩ := pulse
      have same : pulseWidth (word16 (w.extractLsb' 8 8) (w.extractLsb' 0 8)) = st.pulse := by
        rw [word16_of_octets, given, pulseWidth]
      simp only [octets16, List.cons_append, List.nil_append, same, read]
    · obtain ⟨rfl, none⟩ := pulse
      rw [← none, read, List.nil_append]

theorem readRecords_iff (source : Fin 9) (n : Nat) (octets : List Octet) (sts : List Step) :
    readRecords source n octets = some sts
      ↔ sts.length = n ∧ ∃ records, octets = records.flatten ∧ List.Forall₂ (IsRecordOf source) records sts := by
  induction n generalizing octets sts with
  | zero =>
    constructor
    · intro h
      cases octets with
      | nil => cases h; exact ⟨rfl, [], rfl, .nil⟩
      | cons o os => cases h
    · rintro ⟨empty, records, rfl, all⟩
      obtain rfl := List.eq_nil_of_length_eq_zero empty
      cases all
      rfl
  | succ n ih =>
    constructor
    · intro h
      unfold readRecords at h
      split at h
      · cases h
      next st rest first =>
        obtain ⟨sts', others, rfl⟩ := Option.map_eq_some_iff.1 h
        obtain ⟨record, rfl, good⟩ := (readRecord_iff source _ rest st).1 first
        obtain ⟨length, records, rfl, all⟩ := (ih rest sts').1 others
        exact ⟨by simp [length], record :: records, rfl, .cons good all⟩
    · rintro ⟨length, records, rfl, all⟩
      cases all with
      | nil => cases length
      | @cons record st records sts' good all =>
        have first := (readRecord_iff source (record ++ records.flatten) records.flatten st).2 ⟨record, rfl, good⟩
        have others := (ih records.flatten sts').2 ⟨by simpa using length, records, rfl, all⟩
        rw [List.flatten_cons, readRecords, first]
        simp [others]

theorem readSchedule_iff (source : Fin 9) (payload : List Octet) (sts : List Step) :
    readSchedule source payload = some sts ↔
      1 ≤ sts.length ∧ sts.length ≤ 8
        ∧ ∃ records : List (List Octet), payload = BitVec.ofNat 8 sts.length :: records.flatten
          ∧ List.Forall₂ (IsRecordOf source) records sts := by
  constructor
  · intro h
    unfold readSchedule at h
    split at h
    · cases h
    next count octets =>
      split_ifs at h with outOfRange
      obtain ⟨length, records, rfl, all⟩ := (readRecords_iff source count.toNat octets sts).1 h
      refine ⟨by omega, by omega, records, ?_, all⟩
      rw [length, BitVec.ofNat_toNat, BitVec.setWidth_eq]
  · rintro ⟨least, most, records, rfl, all⟩
    have count : (BitVec.ofNat 8 sts.length).toNat = sts.length := by
      rw [BitVec.toNat_ofNat]
      omega
    rw [readSchedule, count, if_neg (by omega)]
    exact (readRecords_iff source sts.length _ sts).2 ⟨rfl, records, rfl, all⟩

/-- The record of a step is a record of that step. -/
theorem Step.record_isRecordOf (st : Step) (wide : st.pulse ≠ some 0) : IsRecordOf st.source st.record st := by
  obtain ⟨small, bank, mode, policy, pulsed⟩ := st.control_fields
  refine ⟨st.control, match st.pulse with | none => [] | some w => octets16 w, rfl, small, bank, ?_, ?_, rfl, ?_⟩
  · rw [mode, beq_iff_eq]
  · rw [policy, beq_iff_eq]
  · rw [pulsed]
    cases width : st.pulse with
    | none => exact ⟨rfl, rfl⟩
    | some w =>
      have notZero : w ≠ 0 := fun zero => wide (by rw [width, zero])
      exact ⟨w, rfl, (if_neg notZero).symm⟩

/-- Settles O22: a record is read back field by field, and a payload is COUNT and its records. -/
theorem scheduleReadsBackFromItsOctets : Obligations.ScheduleReadsBackFromItsOctets := by
  unfold Obligations.ScheduleReadsBackFromItsOctets
  refine ⟨fun source sts least most good => ?_, readSchedule_iff⟩
  refine (readSchedule_iff source _ sts).2 ⟨least, most, sts.map Step.record, ?_, ?_⟩
  · rw [schedulePayload, octetOf, List.flatMap_def]
  · rw [List.forall₂_map_left_iff, List.forall₂_same]
    intro st mem
    obtain ⟨from', wide⟩ := good st mem
    exact from' ▸ st.record_isRecordOf wide

/-! ## SCHEDULE frames (R28, R54, R87) -/

variable {s : State}

theorem seqIsNewer_iff (seq l : Word16) : seqIsNewer seq l = true ↔ 1 ≤ (seq - l).toNat ∧ (seq - l).toNat ≤ 32767 :=
  decide_eq_true_iff

/-- A SCHEDULE whose entry accepts it is taken by the Step Queue before it is passed on. -/
theorem State.receiveFrame_schedule {h : Header} {i : Fin 9} {payload : List Octet} (reaches : s.Reaches h i)
    (accepts : s.table.entries[i].acceptSchedule = true) (fits : payload.length ≤ 96) :
    s.receiveFrame (frameFor h kindSchedule payload)
      = ((s.taken (frameFor h kindSchedule payload)).takeSchedule i (frameFor h kindSchedule payload)).passedOn i
          (frameFor h kindSchedule payload) := by
  have arrives := State.receiveFrame_reaches reaches kindSchedule payload fits
  have kind : (frameFor h kindSchedule payload).received.frame.kindOf = .schedule := by rw [Frame.kindOf_eq]; rfl
  generalize frameFor h kindSchedule payload = f at arrives kind
  have taken : (s.atClose f).offerScheduleFrame i f = (s.taken f).takeSchedule i f := by
    rw [State.offerScheduleFrame, if_pos (show (s.atClose f).table.entries[i].acceptSchedule = true from accepts)]
    rfl
  rw [arrives]
  unfold State.passedOn
  split
  next unit =>
    subst unit
    simp only [State.classifyUnit, kind]
    exact congrArg State.release taken
  next =>
    simp only [State.classifyMany, kind]
    exact congrArg (State.repeatFrame · f.received) taken

/-- Settles O23: the sequence check decides whether the payload is read, and the payload's form what is offered. -/
theorem scheduleIsCheckedThenOffered : Obligations.ScheduleIsCheckedThenOffered := by
  unfold Obligations.ScheduleIsCheckedThenOffered
  intro s h i payload reaches accepts fits f e new t
  have arrives : exec (.schedule h payload) s = .next (((s.taken f).takeSchedule i f).passedOn i f) :=
    congrArg Host.Outcome.next (State.receiveFrame_schedule reaches accepts fits)
  have checked : (e.lastSeq.all fun l => seqIsNewer h.seq l) = true ↔ new := by
    simp only [Option.all_eq_true, seqIsNewer_iff]
    exact Iff.rfl
  have isNew (fresh : new) : (s.taken f).takeSchedule i f = t.offerSchedule i h.seq payload :=
    if_pos (checked.2 fresh)
  rw [arrives]
  refine ⟨fun fresh sts read => ?_, fun fresh malformed => ?_, fun duplicate => ?_⟩
  · rw [isNew fresh, State.offerSchedule, show readSchedule i payload = some sts from read]
  · rw [isNew fresh, State.offerSchedule, malformed]
  · rw [show (s.taken f).takeSchedule i f = _ from if_neg (mt checked.1 duplicate)]
    rfl

/-! ## Steps of network time (R96, R97) -/

/-- A state with these steps held. -/
def State.withHeld (s : State) (held : List Step) : State := { s with steps.held := held }

theorem State.overtake_inTime (s : State) (st : Step)
    (inTime : st.policy = .apply ∧ latenessOf st.due s.time.networkTime ≤ s.steps.lateLimit) :
    s.overtake st
      = if s.run = .armed then s.applyLate st (latenessOf st.due s.time.networkTime) else s.suppress :=
  if_pos inTime

theorem State.overtake_tooLate (s : State) (st : Step)
    (tooLate : ¬(st.policy = .apply ∧ latenessOf st.due s.time.networkTime ≤ s.steps.lateLimit)) :
    s.overtake st = ({ s with steps.counters.lateDropped := s.steps.counters.lateDropped + 1 }).report
      (.lateDropped st.tag (latenessOf st.due s.time.networkTime)) :=
  if_neg tooLate

/-- Overtaking a step neither reads nor writes the queue. -/
theorem State.overtake_withHeld (s : State) (st : Step) (held : List Step) :
    (s.withHeld held).overtake st = (s.overtake st).withHeld held := by
  by_cases inTime : st.policy = .apply ∧ latenessOf st.due s.time.networkTime ≤ s.steps.lateLimit
  · rw [s.overtake_inTime st inTime, State.overtake_inTime (s.withHeld held) st inTime]
    by_cases armed : s.run = .armed
    · rw [if_pos armed, if_pos (show (s.withHeld held).run = .armed from armed)]
      rfl
    · rw [if_neg armed, if_neg (show (s.withHeld held).run ≠ .armed from armed)]
      rfl
  · rw [s.overtake_tooLate st inTime, State.overtake_tooLate (s.withHeld held) st inTime]
    rfl

theorem State.forwardStep_eq (s : State) :
    s.forwardStep = (s.steps.held.takeWhile fun st => !isAfter st.due s.time.networkTime).foldl State.overtake
      (s.withHeld (s.steps.held.dropWhile fun st => !isAfter st.due s.time.networkTime)) := rfl

theorem State.forwardStep_of_ahead (head : ∀ x ∈ s.steps.held.head?, isAfter x.due s.time.networkTime = true) :
    s.forwardStep = s := by
  have none : (s.steps.held.takeWhile fun st => !isAfter st.due s.time.networkTime) = []
      ∧ (s.steps.held.dropWhile fun st => !isAfter st.due s.time.networkTime) = s.steps.held := by
    cases held : s.steps.held with
    | nil => exact ⟨rfl, rfl⟩
    | cons st rest => simp [head st (by simp [held])]
  rw [s.forwardStep_eq, none.1, none.2]
  rfl

/-- The overtaken head step is handled whole before the next (R96). -/
theorem State.forwardStep_of_overtaken {st : Step} {rest : List Step} (held : s.steps.held = st :: rest)
    (late : isAfter st.due s.time.networkTime = false) :
    s.forwardStep = ((s.withHeld rest).overtake st).forwardStep := by
  have time : ((s.withHeld rest).overtake st).time = s.time := by simp [State.withHeld]
  have left : ((s.withHeld rest).overtake st).steps.held = rest := by simp [State.withHeld]
  have again (kept : List Step) : ((s.withHeld rest).overtake st).withHeld kept = (s.withHeld kept).overtake st := by
    rw [State.overtake_withHeld, State.overtake_withHeld]
    rfl
  rw [s.forwardStep_eq, State.forwardStep_eq ((s.withHeld rest).overtake st), again, time, left, held]
  simp [late]

/-- Settles O27: the front of the queue is handled step by step, and a backward step filters it. -/
theorem timeStepsMoveTheQueue : Obligations.TimeStepsMoveTheQueue := by
  unfold Obligations.TimeStepsMoveTheQueue
  constructor
  case left =>
    intro s amount st rest late left b inTime
    refine ⟨fun zero => ?_, fun forward head => ?_, fun forward held behind => ?_⟩
    · simp [State.queueTimeStep, zero]
    · rw [State.queueTimeStep, if_pos forward, State.forwardStep_of_ahead head]
    · rw [State.queueTimeStep, if_pos forward, State.queueTimeStep, if_pos forward,
        State.forwardStep_of_overtaken held behind]
      rfl
  case right =>
    intro s amount backward far n t
    have kept : (s.steps.held.filter fun st => decide (distanceAhead st.due s.time.networkTime ≤ s.steps.acceptWindow))
        = s.steps.held.filter fun st => !far st := by
      refine List.filter_congr fun st _ => ?_
      exact Bool.eq_iff_iff.2 (decide_eq_true_iff.trans (by simp [far, distanceAhead]))
    have removed : s.steps.held.length - (s.steps.held.filter fun st => !far st).length = n := by
      have := List.length_eq_length_filter_add (l := s.steps.held) far
      omega
    have step : s.queueTimeStep amount = ({ s with steps.held := t.steps.held } : State).countFlushed .time n := by
      rw [State.queueTimeStep, if_neg (by omega), if_pos backward, State.backwardStep]
      dsimp only
      rw [kept, removed]
    rw [step, State.countFlushed]
    exact ⟨fun none => if_pos none, fun some => if_neg some⟩

/-! ## Broadcast DISARM (R27, R133) -/

/-- Settles O31: broadcast DISARM reaches Run Control through entry 8, and the frame is repeated. -/
theorem broadcastDisarmReachesSafe : Obligations.BroadcastDisarmReachesSafe := by
  unfold Obligations.BroadcastDisarmReachesSafe
  intro s src hops seq reaches f t off
  have arrives : exec (.broadcastDisarm src hops seq) s = .next ((t.disarm .broadcastDisarm).repeatFrame f.received) := by
    have many := State.receiveFrame_reaches reaches kindCommand [CommandCode.disarm.octet] (by decide)
    rw [if_neg (by decide), State.classifyMany_command _ _ _ (by rw [Frame.kindOf_eq]; rfl)] at many
    exact congrArg Host.Outcome.next many
  rw [arrives]
  refine ⟨fun armed => ?_, fun failsafe => ?_, fun safe => ?_⟩
  · rw [State.disarm_armed (s := t) armed]
    rfl
  · rw [State.disarm_failsafe (s := t) failsafe]
  · rw [State.disarm_safe (s := t) safe]

end Sys2Proof.Machine
end

section
/-! The statement about the expiries of the Output Unit (R114, R116, R117, R119): what each does to its bank, and that the
reverts of one tick have one outcome in either order. -/

namespace Sys2Proof.Machine

/-! ## A bank is what its lines hold -/

@[simp] theorem inSet_noLines (i : Fin 8) : inSet 0#8 i = false := inSet_zero i

theorem LineView.ext_transition {t t' : Transition} (timer : t.timer = t'.timer)
    (make : ∀ i, inSet t.makeSet i = inSet t'.makeSet i) (pulses : ∀ i : Fin 8, t.pulses[i] = t'.pulses[i]) : t = t' := by
  obtain ⟨makeSet, left, waiting⟩ := t
  obtain ⟨makeSet', left', waiting'⟩ := t'
  obtain rfl : left = left' := timer
  obtain rfl : makeSet = makeSet' := ext_inSet _ _ make
  obtain rfl : waiting = waiting' := Vector.ext fun i hi => pulses ⟨i, hi⟩
  rfl

/-- Banks with the same lines, the same timer and the same parameters are one. -/
theorem Bank.ext_view {b c : Bank} (views : ∀ i, b.view i = c.view i)
    (timer : b.transition.map (·.timer) = c.transition.map (·.timer)) (safe : b.safePattern = c.safePattern)
    (dead : b.deadTime = c.deadTime) : b = c := by
  have latch : b.latch = c.latch := ext_inSet _ _ fun i => congrArg LineView.value (views i)
  have lines : b.lines = c.lines := Vector.ext fun i hi => congrArg LineView.mode (views ⟨i, hi⟩)
  have transition : b.transition = c.transition := by
    have make i := congrArg LineView.inMake (views i)
    have waiting i := congrArg LineView.waiting (views i)
    cases pending : b.transition with
    | none =>
      cases pending' : c.transition with
      | none => rfl
      | some t' => simp [pending, pending'] at timer
    | some t =>
      cases pending' : c.transition with
      | none => simp [pending, pending'] at timer
      | some t' =>
        refine congrArg some (LineView.ext_transition (by simpa [pending, pending'] using timer) (fun i => ?_) fun i => ?_)
        · simpa [Bank.view, pending, pending'] using make i
        · simpa [Bank.view, pending, pending'] using waiting i
  obtain ⟨_, _, _, _, _⟩ := b
  obtain ⟨_, _, _, _, _⟩ := c
  simp_all

/-! ## Reverts of one tick (R116, R117; log entry 22) -/

/-- A line whose revert is outstanding. -/
def Bank.Reverts (b : Bank) (k : Fin 8) (revert : Bool) (mode : TransitionMode) : Prop :=
  (b.view k).mode = .pulse revert 0 mode

/-- Taking the reverts of some lines creates a transition. -/
def Bank.Opens (b : Bank) (taken : Set (Fin 8)) : Prop :=
  b.transition = none ∧ b.deadTime ≠ 0 ∧ ∃ k ∈ taken, b.Reverts k true .breakBeforeMake

/-- The reverts taken, with those to 1 under PLAIN that a created transition brings along. -/
def Bank.Falls (b : Bank) (taken : Set (Fin 8)) (k : Fin 8) : Prop :=
  k ∈ taken ∨ b.Opens taken ∧ b.Reverts k true .plain

/-- A revert to 1 waits in a make set. -/
def Bank.Waits (b : Bank) (mode : TransitionMode) : Prop :=
  b.transition ≠ none ∨ mode = .breakBeforeMake ∧ b.deadTime ≠ 0

/-- A line that reads a value and waits for nothing, or waits without a pulse. -/
def LineView.settled (value inMake : Bool) : LineView where
  value := value
  mode := .static
  inMake := inMake
  waiting := none

/-- A bank after the reverts of some of its lines, in terms of the bank before them alone. -/
structure Bank.Reverted (b c : Bank) (taken : Set (Fin 8)) : Prop where
  kept : c.safePattern = b.safePattern ∧ c.deadTime = b.deadTime
  opened : b.Opens taken → c.transition.map (·.timer) = some b.deadTime.toNat
  timer : ¬b.Opens taken → c.transition.map (·.timer) = b.transition.map (·.timer)
  low : ∀ k mode, b.Falls taken k → b.Reverts k false mode → c.view k = .settled false false
  waiting : ∀ k mode, b.Falls taken k → b.Reverts k true mode → b.Waits mode → c.view k = .settled false true
  high : ∀ k mode, b.Falls taken k → b.Reverts k true mode → ¬b.Waits mode → c.view k = .settled true false
  other : ∀ k, ¬b.Falls taken k → c.view k = b.view k

variable {b c : Bank} {taken : Set (Fin 8)} {j : Fin 8}

theorem Bank.Reverts.unique {k : Fin 8} {r r' : Bool} {m m' : TransitionMode} (h : b.Reverts k r m)
    (h' : b.Reverts k r' m') : r = r' ∧ m = m' := by
  have same := h.symm.trans h'
  injection same with hr _ hm
  exact ⟨hr, hm⟩

theorem Bank.not_opens_empty (b : Bank) : ¬b.Opens ∅ := fun ⟨_, _, _, mem, _⟩ => mem

theorem Bank.Reverted.nothing (b : Bank) : b.Reverted b ∅ := by
  have nothing (k : Fin 8) : ¬b.Falls ∅ k := fun falls => falls.elim id fun ⟨opens, _⟩ => b.not_opens_empty opens
  exact {
    kept := ⟨rfl, rfl⟩
    opened := fun opens => absurd opens b.not_opens_empty
    timer := fun _ => rfl
    low := fun k _ falls => absurd falls (nothing k)
    waiting := fun k _ falls => absurd falls (nothing k)
    high := fun k _ falls => absurd falls (nothing k)
    other := fun _ _ => rfl }

/-- The bank after the reverts is determined by the bank before. -/
theorem Bank.Reverted.unique {c' : Bank} (due : ∀ k ∈ taken, ∃ r m, b.Reverts k r m) (h : b.Reverted c taken)
    (h' : b.Reverted c' taken) : c = c' := by
  refine Bank.ext_view (fun k => ?_) ?_ (h.kept.1.trans h'.kept.1.symm) (h.kept.2.trans h'.kept.2.symm)
  · by_cases falls : b.Falls taken k
    · have reverts : ∃ r m, b.Reverts k r m := falls.elim (due k) fun ⟨_, plain⟩ => ⟨_, _, plain⟩
      obtain ⟨r, m, revert⟩ := reverts
      cases r with
      | false => rw [h.low k m falls revert, h'.low k m falls revert]
      | true =>
        by_cases waits : b.Waits m
        · rw [h.waiting k m falls revert waits, h'.waiting k m falls revert waits]
        · rw [h.high k m falls revert waits, h'.high k m falls revert waits]
    · rw [h.other k falls, h'.other k falls]
  · by_cases opens : b.Opens taken
    · rw [h.opened opens, h'.opened opens]
    · rw [h.timer opens, h'.timer opens]

/-! ## One revert (R117) -/

/-- The step of a revert on its own line, and on the others. -/
theorem Bank.applyStep_oneLine_other (c : Bank) (value : Bool) (mode : TransitionMode) {j k : Fin 8} (other : k ≠ j) :
    (c.applyStep (oneLineStep j value mode)).view k = c.view k :=
  c.applyStep_view_unmasked _ k (by simpa [oneLineStep] using fun same => other same.symm)

theorem Bank.applyStep_oneLine_low (c : Bank) (mode : TransitionMode) (j : Fin 8) :
    (c.applyStep (oneLineStep j false mode)).view j = .settled false false := by
  rw [c.applyStep_view_break _ j (by simp [oneLineStep]) (by simp [oneLineStep])]
  simp [LineView.settled, BankStep.lineTaken, oneLineStep]

theorem Bank.applyStep_oneLine_waits (c : Bank) (mode : TransitionMode) (j : Fin 8) (low : inSet c.latch j = false)
    (waits : c.Waits mode) : (c.applyStep (oneLineStep j true mode)).view j = .settled false true :=
  c.applyStep_view_delayed _ j (by simp [oneLineStep]) (by simp [oneLineStep]) low waits

theorem Bank.applyStep_oneLine_high (c : Bank) (mode : TransitionMode) (j : Fin 8) (low : inSet c.latch j = false)
    (atOnce : ¬c.Waits mode) : (c.applyStep (oneLineStep j true mode)).view j = .settled true false :=
  c.applyStep_view_immediate _ j (by simp [oneLineStep]) (by simp [oneLineStep]) low atOnce

/-- A one-line step opens a transition when it gives 1 to a line that reads 0 and has to wait, with none pending. -/
theorem oneLineStep_makes (value : Bool) (mode : TransitionMode) (latch : Octet) (j : Fin 8) :
    (oneLineStep j value mode).makes latch ≠ 0 ↔ value = true ∧ inSet latch j = false := by
  constructor
  · intro makes
    by_contra noMake
    refine makes (ext_inSet _ _ fun k => ?_)
    by_cases same : j = k
    · subst same
      cases value <;> simp_all [oneLineStep]
    · simp [oneLineStep, same]
  · rintro ⟨rfl, low⟩ noMake
    have := congrArg (inSet · j) noMake
    simp [oneLineStep, low] at this

theorem Bank.opensTransition_iff (c : Bank) (value : Bool) (mode : TransitionMode) (j : Fin 8) :
    c.opensTransition (oneLineStep j value mode) = true
      ↔ c.transition = none ∧ mode = .breakBeforeMake ∧ c.deadTime ≠ 0 ∧ value = true ∧ inSet c.latch j = false := by
  rw [← oneLineStep_makes value mode c.latch j]
  simp [Bank.opensTransition, oneLineStep, and_assoc]

theorem Bank.applyStep_oneLine_timer (c : Bank) (value : Bool) (mode : TransitionMode) (j : Fin 8) :
    (c.applyStep (oneLineStep j value mode)).transition.map (·.timer)
      = if c.opensTransition (oneLineStep j value mode) then some c.deadTime.toNat
        else c.transition.map (·.timer) := by
  have opens := c.opensTransition_iff value mode j
  have makes := oneLineStep_makes value mode c.latch j
  rw [c.applyStep_timer]
  cases pending : c.transition with
  | some t =>
    rw [pending] at opens
    refine (if_neg fun opened => ?_).symm
    simpa using (opens.1 opened).1
  | none =>
    rw [pending] at opens
    dsimp only [Option.map_none]
    by_cases delayed : (oneLineStep j value mode).mode = .breakBeforeMake ∧ c.deadTime ≠ 0
        ∧ (oneLineStep j value mode).makes c.latch ≠ 0
    · rw [if_pos delayed, if_pos (opens.2 ⟨rfl, delayed.1, delayed.2.1, makes.1 delayed.2.2⟩)]
    · rw [if_neg delayed, if_neg fun open' => ?_]
      obtain ⟨_, mode', dead, make⟩ := opens.1 open'
      exact delayed ⟨mode', dead, makes.2 make⟩

/-- The plain reverts brought along are 1 at once, and nothing else changes. -/
theorem Bank.takePlainReverts_parts (c : Bank) (idle : c.transition = none)
    (low : ∀ k, c.Reverts k true .plain → inSet c.latch k = false) :
    c.takePlainReverts.transition = none
      ∧ (∀ k, c.Reverts k true .plain → c.takePlainReverts.view k = .settled true false)
      ∧ ∀ k, ¬c.Reverts k true .plain → c.takePlainReverts.view k = c.view k := by
  have atOnce : ¬c.delays { value := c.plainReverts, mask := c.plainReverts, mode := .plain, pulse := none } := by
    rintro (pending | ⟨delayed, _⟩)
    · exact pending idle
    · cases delayed
  have chosen (k : Fin 8) : inSet c.plainReverts k = true ↔ c.Reverts k true .plain := by
    rw [c.inSet_plainReverts k, decide_eq_true_eq]
    rfl
  refine ⟨?_, fun k plain => ?_, fun k notPlain => ?_⟩
  · have timer := c.applyStep_timer { value := c.plainReverts, mask := c.plainReverts, mode := .plain, pulse := none }
    rw [idle] at timer
    dsimp only at timer
    rw [if_neg fun ⟨delayed, _⟩ => by cases delayed] at timer
    exact Option.map_eq_none_iff.1 timer
  · have masked := (chosen k).2 plain
    exact c.applyStep_view_immediate _ k masked masked (low k plain) atOnce
  · exact c.applyStep_view_unmasked _ k (Bool.eq_false_iff.2 (mt (chosen k).1 notPlain))

/-- What Bank.Law says of a line that pulses (R108, R112). -/
theorem Bank.Law.reverting {k : Fin 8} {r : Bool} {m : TransitionMode} (law : b.Law) (reverts : b.Reverts k r m) :
    b.view k = { value := !r, mode := .pulse r 0 m, inMake := false, waiting := none } := by
  obtain ⟨lawful, quiet, pulsed⟩ := (b.law_iff.1 law).1 k
  rw [show (b.view k).mode = .pulse r 0 m from reverts] at lawful
  have notMake : (b.view k).inMake = false := by
    refine Bool.eq_false_iff.2 fun make => ?_
    have static := (quiet make).2
    rw [show (b.view k).mode = .pulse r 0 m from reverts] at static
    cases static
  have idle : (b.view k).waiting = none := by
    refine Option.eq_none_iff_forall_not_mem.2 fun q mem => ?_
    exact absurd (pulsed q mem).1 (by simp [notMake])
  have value : (b.view k).value = !r := by simpa [LineMode.lawful] using lawful
  calc b.view k = ⟨(b.view k).value, (b.view k).mode, (b.view k).inMake, (b.view k).waiting⟩ := rfl
    _ = _ := by rw [value, notMake, idle, show (b.view k).mode = .pulse r 0 m from reverts]

theorem Bank.opens_insert_iff (b : Bank) (taken : Set (Fin 8)) (j : Fin 8) :
    b.Opens (insert j taken)
      ↔ b.Opens taken ∨ b.transition = none ∧ b.deadTime ≠ 0 ∧ b.Reverts j true .breakBeforeMake := by
  simp only [Bank.Opens, Set.mem_insert_iff, exists_eq_or_imp]
  constructor
  · rintro ⟨idle, dead, last | before⟩
    · exact .inr ⟨idle, dead, last⟩
    · exact .inl ⟨idle, dead, before⟩
  · rintro (⟨idle, dead, before⟩ | ⟨idle, dead, last⟩)
    · exact ⟨idle, dead, .inr before⟩
    · exact ⟨idle, dead, .inl last⟩

/-- The expiry of a pulse of a line, when it is outstanding. -/
def Bank.takeRevert (c : Bank) (j : Fin 8) : Bank := if c.pulseDue j then c.expirePulse j else c

theorem Bank.takeRevert_of_reverts {r : Bool} {m : TransitionMode} (reverts : c.Reverts j r m) :
    c.takeRevert j
      = (if c.opensTransition (oneLineStep j r m) then c.takePlainReverts else c).applyStep (oneLineStep j r m) := by
  have line : c.lines[j] = .pulse r 0 m := reverts
  rw [Bank.takeRevert, if_pos ((c.pulseDue_iff j).2 ⟨r, m, line⟩)]
  simp only [Bank.expirePulse, line]

/-- One more revert, where a created transition has taken it along already. -/
theorem Bank.Reverted.stays (h : b.Reverted c taken) {r : Bool} {m : TransitionMode} (reverts : b.Reverts j r m)
    (falls : b.Falls taken j) : b.Reverted c (insert j taken) := by
  have opens : b.Opens (insert j taken) ↔ b.Opens taken := by
    rw [b.opens_insert_iff]
    refine or_iff_left_of_imp fun ⟨idle, dead, last⟩ => ?_
    rcases falls with before | ⟨opens, _⟩
    · exact ⟨idle, dead, j, before, last⟩
    · exact opens
  have same (k : Fin 8) : b.Falls (insert j taken) k ↔ b.Falls taken k := by
    unfold Bank.Falls
    rw [opens, Set.mem_insert_iff]
    constructor
    · rintro ((rfl | before) | brought)
      · exact falls
      · exact .inl before
      · exact .inr brought
    · exact Or.imp_left .inr
  exact {
    kept := h.kept
    opened := fun o => h.opened (opens.1 o)
    timer := fun o => h.timer (mt opens.2 o)
    low := fun k mode f => h.low k mode ((same k).1 f)
    waiting := fun k mode f => h.waiting k mode ((same k).1 f)
    high := fun k mode f => h.high k mode ((same k).1 f)
    other := fun k f => h.other k (mt (same k).2 f) }

/-- One more revert: its line, the lines it brings along, and the timer it loads. -/
theorem Bank.Reverted.extend {c' : Bank} (h : b.Reverted c taken) {r : Bool} {m : TransitionMode}
    (reverts : b.Reverts j r m) (kept : c'.safePattern = c.safePattern ∧ c'.deadTime = c.deadTime)
    (opened : b.Opens (insert j taken) → c'.transition.map (·.timer) = some b.deadTime.toNat)
    (timer : ¬b.Opens (insert j taken) → c'.transition.map (·.timer) = c.transition.map (·.timer))
    (low : r = false → c'.view j = .settled false false)
    (waiting : r = true → b.Waits m → c'.view j = .settled false true)
    (high : r = true → ¬b.Waits m → c'.view j = .settled true false)
    (brought : ∀ k, k ≠ j → b.Opens (insert j taken) → b.Reverts k true .plain → ¬b.Falls taken k →
      c'.view k = .settled true false)
    (others : ∀ k, k ≠ j → b.Falls taken k ∨ ¬(b.Opens (insert j taken) ∧ b.Reverts k true .plain) →
      c'.view k = c.view k) : b.Reverted c' (insert j taken) := by
  have opens : b.Opens taken → b.Opens (insert j taken) := fun o => (b.opens_insert_iff taken j).2 (.inl o)
  have before (k : Fin 8) (f : b.Falls (insert j taken) k) (other : k ≠ j) :
      b.Falls taken k ∨ b.Opens (insert j taken) ∧ b.Reverts k true .plain := by
    rcases f with mem | new
    · exact .inl (.inl (mem.resolve_left other))
    · exact .inr new
  constructor
  case kept => exact ⟨kept.1.trans h.kept.1, kept.2.trans h.kept.2⟩
  case opened => exact opened
  case timer => exact fun o => (timer o).trans (h.timer (mt opens o))
  case low =>
    intro k mode f rev
    by_cases same : k = j
    · subst same
      exact low (reverts.unique rev).1
    · rcases before k f same with old | ⟨_, plain⟩
      · rw [others k same (.inl old), h.low k mode old rev]
      · exact absurd (rev.unique plain).1 (by simp)
  case waiting =>
    intro k mode f rev waits
    by_cases same : k = j
    · subst same
      obtain ⟨rfl, rfl⟩ := reverts.unique rev
      exact waiting rfl waits
    · rcases before k f same with old | ⟨⟨idle, _⟩, plain⟩
      · rw [others k same (.inl old), h.waiting k mode old rev waits]
      · obtain ⟨_, rfl⟩ := rev.unique plain
        exact absurd waits (by simp [Bank.Waits, idle])
  case high =>
    intro k mode f rev atOnce
    by_cases same : k = j
    · subst same
      obtain ⟨rfl, rfl⟩ := reverts.unique rev
      exact high rfl atOnce
    · by_cases old : b.Falls taken k
      · rw [others k same (.inl old), h.high k mode old rev atOnce]
      · obtain ⟨open', plain⟩ := (before k f same).resolve_left old
        exact brought k same open' plain old
  case other =>
    intro k notFalls
    have other : k ≠ j := fun same => notFalls (.inl (.inl same))
    have old : ¬b.Falls taken k := by
      rintro (mem | ⟨o, plain⟩)
      · exact notFalls (.inl (.inr mem))
      · exact notFalls (.inr ⟨opens o, plain⟩)
    rw [others k other (.inr fun new => notFalls (.inr new)), h.other k old]

/-- A line whose revert has been taken is STATIC, so what still reverts is as it was. -/
theorem Bank.Reverted.still (h : b.Reverted c taken) (due : ∀ k ∈ taken, ∃ r m, b.Reverts k r m) {k : Fin 8} {r : Bool}
    {m : TransitionMode} (reverts : c.Reverts k r m) : ¬b.Falls taken k ∧ b.Reverts k r m := by
  have notFalls : ¬b.Falls taken k := by
    intro falls
    have was : ∃ r m, b.Reverts k r m := falls.elim (due k) fun ⟨_, plain⟩ => ⟨_, _, plain⟩
    obtain ⟨r', m', revert⟩ := was
    unfold Bank.Reverts at reverts
    cases r' with
    | false => simp [h.low k m' falls revert, LineView.settled] at reverts
    | true =>
      by_cases waits : b.Waits m'
      · simp [h.waiting k m' falls revert waits, LineView.settled] at reverts
      · simp [h.high k m' falls revert waits, LineView.settled] at reverts
  refine ⟨notFalls, ?_⟩
  rwa [Bank.Reverts, h.other k notFalls] at reverts

theorem Bank.Reverted.idle_iff (h : b.Reverted c taken) : c.transition = none ↔ b.transition = none ∧ ¬b.Opens taken := by
  have mapped (d : Bank) : d.transition.map (·.timer) = none ↔ d.transition = none := Option.map_eq_none_iff
  rw [← mapped c, ← mapped b]
  by_cases opens : b.Opens taken
  · simp [h.opened opens, opens]
  · simp [h.timer opens, opens]

/-- Taking one more outstanding revert gives the bank with one more revert taken. -/
theorem Bank.Reverted.takeRevert (law : b.Law) (due : ∀ k ∈ taken, ∃ r m, b.Reverts k r m) (h : b.Reverted c taken)
    {r : Bool} {m : TransitionMode} (reverts : b.Reverts j r m) : b.Reverted (c.takeRevert j) (insert j taken) := by
  by_cases falls : b.Falls taken j
  · have taken' : c.takeRevert j = c := by
      refine if_neg fun outstanding => ?_
      obtain ⟨r', m', still⟩ := (c.pulseDue_iff j).1 outstanding
      exact (h.still due (show c.Reverts j r' m' from still)).1 falls
    rw [taken']
    exact h.stays reverts falls
  have view : c.view j = { value := !r, mode := .pulse r 0 m, inMake := false, waiting := none } :=
    (h.other j falls).trans (law.reverting reverts)
  have same : c.Reverts j r m := congrArg LineView.mode view
  have latch : inSet c.latch j = !r := congrArg LineView.value view
  have dead : c.deadTime = b.deadTime := h.kept.2
  have notPlain (opens : b.Opens taken) (one : r = true) : m = .breakBeforeMake := by
    cases m with
    | breakBeforeMake => rfl
    | plain => exact absurd (.inr ⟨opens, one ▸ reverts⟩) falls
  have waits (one : r = true) : c.Waits m ↔ b.Waits m := by
    unfold Bank.Waits
    rw [ne_eq, h.idle_iff, dead]
    constructor
    · rintro (pending | delayed)
      · by_cases idle : b.transition = none
        · have opens : b.Opens taken := by
            by_contra o
            exact pending ⟨idle, o⟩
          exact .inr ⟨notPlain opens one, opens.2.1⟩
        · exact .inl idle
      · exact .inr delayed
    · rintro (pending | delayed)
      · exact .inl fun ⟨idle, _⟩ => pending idle
      · exact .inr delayed
  have opening : c.opensTransition (oneLineStep j r m) = true ↔ b.Opens (insert j taken) ∧ ¬b.Opens taken := by
    rw [c.opensTransition_iff, h.idle_iff, dead, latch, b.opens_insert_iff]
    constructor
    · rintro ⟨⟨idle, notOpen⟩, rfl, hasDead, rfl, _⟩
      exact ⟨.inr ⟨idle, hasDead, reverts⟩, notOpen⟩
    · rintro ⟨opens, notOpen⟩
      obtain ⟨idle, hasDead, last⟩ := opens.resolve_left notOpen
      obtain ⟨rfl, rfl⟩ := reverts.unique last
      exact ⟨⟨idle, notOpen⟩, rfl, hasDead, rfl, rfl⟩
  rw [Bank.takeRevert_of_reverts same]
  split
  next opens =>
    obtain ⟨opensNow, notBefore⟩ := opening.1 opens
    obtain ⟨idle, rfl, hasDead, rfl, low⟩ := (c.opensTransition_iff r m j).1 opens
    obtain ⟨stillIdle, plainTaken, others⟩ := c.takePlainReverts_parts idle fun k plain => by
      obtain ⟨notFalls, plain'⟩ := h.still due plain
      have view := (h.other k notFalls).trans (law.reverting plain')
      exact congrArg LineView.value view
    have own : c.takePlainReverts.view j = c.view j := others j fun plain => by simpa using (same.unique plain).2
    have latch' : inSet c.takePlainReverts.latch j = false := (congrArg LineView.value own).trans low
    have dead' : c.takePlainReverts.deadTime = c.deadTime := (c.applyStep_kept _).2
    have safe' : c.takePlainReverts.safePattern = c.safePattern := (c.applyStep_kept _).1
    have kept := c.takePlainReverts.applyStep_kept (oneLineStep j true .breakBeforeMake)
    have opens' : c.takePlainReverts.opensTransition (oneLineStep j true .breakBeforeMake) = true :=
      (Bank.opensTransition_iff _ _ _ _).2 ⟨stillIdle, rfl, dead' ▸ hasDead, rfl, latch'⟩
    refine h.extend reverts ⟨kept.1.trans safe', kept.2.trans dead'⟩ (fun _ => ?_) (fun no => absurd opensNow no)
      (by simp) (fun _ _ => ?_) (fun _ atOnce => ?_) (fun k other _ plain notFalls => ?_) (fun k other old => ?_)
    · rw [Bank.applyStep_oneLine_timer, if_pos opens', dead', dead]
    · exact Bank.applyStep_oneLine_waits _ _ _ latch' (.inr ⟨rfl, dead' ▸ hasDead⟩)
    · exact absurd (.inr ⟨rfl, dead ▸ hasDead⟩) atOnce
    · rw [Bank.applyStep_oneLine_other _ _ _ other]
      refine plainTaken k ?_
      rw [Bank.Reverts, h.other k notFalls]
      exact plain
    · rw [Bank.applyStep_oneLine_other _ _ _ other]
      refine others k fun plain => ?_
      obtain ⟨notFalls, plain'⟩ := h.still due plain
      exact (old.resolve_left notFalls) ⟨opensNow, plain'⟩
  next closed =>
    have openBefore : b.Opens (insert j taken) → b.Opens taken := fun now => by
      by_contra before
      exact closed (opening.2 ⟨now, before⟩)
    have timer : (c.applyStep (oneLineStep j r m)).transition.map (·.timer) = c.transition.map (·.timer) := by
      rw [Bank.applyStep_oneLine_timer, if_neg closed]
    refine h.extend reverts (c.applyStep_kept _) (fun now => timer.trans (h.opened (openBefore now))) (fun _ => timer)
      (fun zero => ?_) (fun one delayed => ?_) (fun one atOnce => ?_) (fun k _ now plain notFalls => ?_) fun k other _ => ?_
    · rw [zero]
      exact Bank.applyStep_oneLine_low _ _ _
    · subst one
      exact Bank.applyStep_oneLine_waits _ _ _ latch ((waits rfl).2 delayed)
    · subst one
      exact Bank.applyStep_oneLine_high _ _ _ latch (mt (waits rfl).1 atOnce)
    · exact absurd (.inr ⟨openBefore now, plain⟩) notFalls
    · exact Bank.applyStep_oneLine_other _ _ _ other

/-- Two reverts of one tick have one outcome in either order (R116). -/
theorem Bank.takeRevert_comm (law : b.Law) {i j : Fin 8} (first : ∃ r m, b.Reverts i r m) (second : ∃ r m, b.Reverts j r m) :
    (b.takeRevert i).takeRevert j = (b.takeRevert j).takeRevert i := by
  obtain ⟨r, m, first⟩ := first
  obtain ⟨r', m', second⟩ := second
  have nothing : ∀ k ∈ (∅ : Set (Fin 8)), ∃ r m, b.Reverts k r m := by simp
  have one {i : Fin 8} {r : Bool} {m : TransitionMode} (h : b.Reverts i r m) :
      (∀ k ∈ insert i (∅ : Set (Fin 8)), ∃ r m, b.Reverts k r m) ∧ b.Reverted (b.takeRevert i) (insert i ∅) := by
    refine ⟨fun k mem => ?_, (Bank.Reverted.nothing b).takeRevert law nothing h⟩
    obtain rfl : k = i := by simpa using mem
    exact ⟨r, m, h⟩
  have both := (one first).2.takeRevert law (one first).1 second
  have swapped := (one second).2.takeRevert law (one second).1 first
  rw [Set.insert_comm] at swapped
  refine both.unique (fun k mem => ?_) swapped
  rcases mem with rfl | mem
  · exact ⟨r', m', second⟩
  · exact (one first).1 k mem

/-! ## Expiries at their bank (R114, R117, R119) -/

theorem State.takePulse_eq (s : State) (id : BankId) (i : Fin 8) :
    s.takePulse id i = s.withBank id (·.takeRevert i) := by
  unfold State.takePulse
  split
  next due => simp only [State.withBank, Bank.takeRevert, if_pos due]
  next idle =>
    simp only [State.withBank, Bank.takeRevert, if_neg idle]
    cases id <;> rfl

theorem State.withBank_withBank (s : State) (id : BankId) (f g : Bank → Bank) :
    (s.withBank id f).withBank id g = s.withBank id (g ∘ f) := by
  cases id <;> rfl

/-- Settles O30: each expiry is an operation of its bank; two reverts give one bank in either order. -/
theorem outputExpiriesActOnTheirBank : Obligations.OutputExpiriesActOnTheirBank := by
  unfold Obligations.OutputExpiriesActOnTheirBank
  intro s id i t revert mode period onTime phase plain b reverts opens withBank bit
  refine ⟨fun pending => ?_, fun line chosen => ?_, fun law j other first second => ?_, fun line => ?_⟩
  · have due : b.transitionDue = true := by simp [Bank.transitionDue, pending]
    refine congrArg Host.Outcome.next ((if_pos due).trans (congrArg withBank ?_))
    have lines : (Vector.ofFn fun j : Fin 8 => if inSet t.makeSet j then
          match t.pulses[j] with
          | some q => LineMode.pulse false q.width.toNat q.mode
          | none => b.lines[j]
        else b.lines[j])
        = Vector.ofFn fun j : Fin 8 => match inSet t.makeSet j, t.pulses[j] with
          | true, some q => .pulse false q.width.toNat q.mode
          | _, _ => b.lines[j] := by
      refine congrArg Vector.ofFn (funext fun j => ?_)
      cases inSet t.makeSet j <;> cases t.pulses[j] <;> rfl
    simp only [Bank.expireTransition, show (s.out.bank id).transition = _ from pending]
    exact congrArg (fun l => { b with latch := b.latch ||| t.makeSet, transition := none, lines := l }) lines
  · have due : b.pulseDue i = true := (b.pulseDue_iff i).2 ⟨revert, mode, line⟩
    have all : b.plainReverts = plain := ext_inSet _ _ fun j => by
      rw [Bool.eq_iff_iff, chosen j, b.inSet_plainReverts j, decide_eq_true_eq]
    have opening : b.opensTransition (oneLineStep i revert mode) = true ↔ opens := by
      rw [b.opensTransition_iff]
      exact ⟨fun ⟨idle, delayed, dead, one, low⟩ => ⟨one, delayed, idle, dead, low⟩,
        fun ⟨one, delayed, idle, dead, low⟩ => ⟨idle, delayed, dead, one, low⟩⟩
    refine congrArg Host.Outcome.next ((if_pos due).trans (congrArg withBank ?_))
    simp only [Bank.expirePulse, show (s.out.bank id).lines[i] = _ from line]
    refine congrArg (Bank.applyStep · (oneLineStep i revert mode)) ?_
    by_cases o : opens
    · rw [if_pos (opening.2 o), if_pos o, Bank.takePlainReverts, all]
    · rw [if_neg (mt opening.1 o), if_neg o]
  · refine ⟨_, _, _, rfl, rfl, rfl, congrArg Host.Outcome.next ?_⟩
    rw [State.takePulse_eq, State.takePulse_eq, State.takePulse_eq, State.takePulse_eq, State.withBank_withBank,
      State.withBank_withBank]
    have commute := Bank.takeRevert_comm law first second
    simp only [State.withBank, Function.comp_apply]
    rw [commute]
  · have due : b.edgeDue i = true := (b.edgeDue_iff i).2 ⟨period, onTime, phase, line⟩
    refine congrArg Host.Outcome.next ((if_pos due).trans (congrArg withBank ?_))
    simp only [Bank.takeEdge, show (s.out.bank id).lines[i] = _ from line]
    rfl

end Sys2Proof.Machine
end

section
/-! The statements about STATUS, CONFIG-SET, LINE-SET and EVENT-FETCH (R148, R152, R155, R159). -/

namespace Sys2Proof.Machine

variable {s : State} {h : Header}

/-! ## STATUS (R148, 11.4) -/

theorem Bank.statusOctets_eq (b : Bank) :
    b.statusOctets = [b.latch, if b.transition = none then 0 else 1, (b.transition.map (·.makeSet)).getD 0] := by
  cases pending : b.transition <;> simp [Bank.statusOctets, pending]

theorem runStatus_zero (t : State) : runStatus t [0] = .done t (0 :: t.statusPage0) := rfl

theorem runStatus_one (t : State) : runStatus t [1] = .done t (1 :: t.statusPage1) := rfl

theorem runStatus_two (t : State) : runStatus t [2] = .done t (2 :: t.statusPage2) := rfl

theorem runStatus_other (t : State) {page : Octet} (other : 2 < page.toNat) :
    runStatus t [page] = .refused t .badValue := by
  have not (small : Octet) (low : small.toNat ≤ 2) : page ≠ small := fun same => by rw [same] at other; omega
  simp only [runStatus, not 0 (by decide), not 1 (by decide), not 2 (by decide), if_false]

theorem State.statusPage1_eq (t : State) :
    t.statusPage1 = [t.rx.framesGood, t.rx.framesRepeated, t.rx.framesConsumed, t.rx.frameErrors, t.rx.noBufferDrops,
      t.rx.returned, t.rx.expired, t.rx.filtered, t.rx.duplicateSchedules, t.tx.framesSent].flatMap octets32 := by
  simp only [State.statusPage1, List.flatMap_cons, List.flatMap_nil, List.append_nil, List.append_assoc]

theorem State.statusPage2_eq (t : State) :
    t.statusPage2 = [t.steps.counters.accepted, t.steps.counters.applied, t.steps.counters.lateApplied,
      t.steps.counters.lateDropped, t.steps.counters.suppressed, t.steps.counters.cancelled,
      t.steps.counters.flushed].flatMap octets32 := by
  simp only [State.statusPage2, List.flatMap_cons, List.flatMap_nil, List.append_nil, List.append_assoc]

/-- The command's own buffer counts in the Insert Queue and on the insert side (log entry 16). -/
theorem Transmitter.insertSide_succ (t : Transmitter) :
    t.insertSide + 1 = (t.insertQueue.length + 1) + t.state.fromInsert := by
  rw [Transmitter.insertSide]
  omega

/-- Settles O37: a page is a reading of the state at the frame's CLOSE, in which the receiver is in IN-SYNC. -/
theorem statusReportsThePage : Obligations.StatusReportsThePage := by
  unfold Obligations.StatusReportsThePage
  intro s h page x f t bank flag insert fromInsert page0 c page1 k page2
  have answer := State.receiveFrame_answered .status [page] (by simp) x t
  have rx : t.link.rx = .inSync := x.1.1.1.2.1
  have side : t.tx.insertSide + 1 = insert + fromInsert := t.tx.insertSide_succ
  have first : t.statusPage0 = page0 := by
    rw [State.statusPage0, rx, side, Bank.statusOctets_eq, Bank.statusOctets_eq, Bank.statusOctets_eq]
    rfl
  have second : t.statusPage1 = page1 := t.statusPage1_eq
  have third : t.statusPage2 = page2 := t.statusPage2_eq
  refine ⟨?_, ?_, ?_, fun other => congrArg _ (answer .badValue [] (runStatus_other t other))⟩
  · rintro rfl
    exact congrArg _ (answer .done _ (first ▸ runStatus_zero t))
  · rintro rfl
    exact congrArg _ (answer .done _ (second ▸ runStatus_one t))
  · rintro rfl
    exact congrArg _ (answer .done _ (third ▸ runStatus_two t))

/-! ## CONFIG-SET (R152, Table 9.7) -/

theorem Param.admits_iff (p : Param) (value : Word32) :
    p.admits value = true ↔ p.range.1 ≤ value.toNat ∧ value.toNat ≤ p.range.2 := decide_eq_true_iff

/-- A parameter stands at the value just stored in it. -/
theorem State.writeParam_paramNumber (t : State) {p : Param} {value : Word32} (admitted : p.admits value = true) :
    (t.writeParam p value).paramNumber p = value.toNat := by
  obtain ⟨_, most⟩ := (p.admits_iff value).1 admitted
  cases p with
  | deadTime id =>
    have small : value.toNat ≤ 255 := most
    simp only [State.writeParam, State.paramNumber, OutputUnit.bank_setBank_same, BitVec.toNat_setWidth]
    omega
  | safePattern id =>
    have small : value.toNat ≤ 255 := most
    have stored : (value.setWidth 8).toNat = value.toNat := by
      rw [BitVec.toNat_setWidth]
      omega
    simp only [State.writeParam, State.writeSafePattern, State.paramNumber, OutputUnit.bank_setBank_same]
    split
    · exact stored
    · rw [(Bank.safeTransition_kept _).1]
      exact stored
  | attentionLevel =>
    have small : value.toNat ≤ 2 := most
    simp only [State.writeParam, State.paramNumber, severityOf]
    match value.toNat, small with
    | 0, _ | 1, _ | 2, _ => rfl
  | _ => rfl

theorem runConfigSet_admitted (t : State) {number : Octet} {value : Word32} {p : Param} (named : paramOf number = some p)
    (admitted : p.admits value = true) :
    runConfigSet t (number :: octets32 value) = .done (t.writeParam p value) (number :: octets32 value) := by
  have stands : (t.writeParam p value).paramValue p = value := by
    rw [State.paramValue_eq_ofNat, t.writeParam_paramNumber admitted, BitVec.ofNat_toNat, BitVec.setWidth_eq]
  simp only [runConfigSet, octets32, word32_of_octets, named, admitted, if_true, stands]

theorem runConfigSet_refused (t : State) {number : Octet} {value : Word32}
    (bad : ∀ p ∈ paramOf number, p.admits value = false) :
    runConfigSet t (number :: octets32 value) = .refused t .badValue := by
  simp only [runConfigSet, octets32, word32_of_octets]
  cases named : paramOf number with
  | none => rfl
  | some p => simp only [bad p named, Bool.false_eq_true, if_false]

/-- A value within its parameter's range is stored, by the parameter's number. -/
def State.storedParam (t : State) (number : Octet) (value : Word32) : Option State :=
  (paramOf number).bind fun p => if p.admits value then some (t.writeParam p value) else none

theorem severityOf_eq (value : Word32) :
    severityOf value = if value.toNat = 0 then .info else if value.toNat = 1 then .warning else .alarm := by
  unfold severityOf
  split
  next zero => simp [zero]
  next one => simp [one]
  next notZero notOne => rw [if_neg notZero, if_neg notOne]

/-- Settles O39: the parameter is found by its number, its range decides, and its owner's part of the state is written. -/
theorem configSetStoresTheParameter : Obligations.ConfigSetStoresTheParameter := by
  unfold Obligations.ConfigSetStoresTheParameter
  intro s h number value x f t v o pattern within stored
  have answer := State.receiveFrame_answered .configSet (number :: octets32 value) (by simp) x
  have range (p : Param) : (if p.admits value then some (t.writeParam p value) else none)
      = within p.range.1 p.range.2 (t.writeParam p value) := by
    simp only [within, Param.admits_iff]
    rfl
  have byNumber : stored = t.storedParam number value := by
    have level : (State.writeParam t .attentionLevel value) = { t with events.attentionLevel :=
        if v = 0 then .info else if v = 1 then .warning else .alarm } := by
      rw [State.writeParam, severityOf_eq]
    unfold stored State.storedParam paramOf
    match number.toNat with
    | 0 | _ + 16 => rfl
    | 15 =>
      refine Eq.trans ?_ (range .attentionLevel).symm
      rw [level]
      rfl
    | 1 => exact (range .acceptWindow).symm
    | 2 => exact (range .lateLimit).symm
    | 3 => exact (range (.deadTime .a)).symm
    | 4 => exact (range (.deadTime .b)).symm
    | 5 => exact (range (.deadTime .c)).symm
    | 6 => exact (range (.safePattern .a)).symm
    | 7 => exact (range (.safePattern .b)).symm
    | 8 => exact (range (.safePattern .c)).symm
    | 9 => exact (range .lockWindow).symm
    | 10 => exact (range .slewLimit).symm
    | 11 => exact (range .markTimeout).symm
    | 12 => exact (range .holdoverLimit).symm
    | 13 => exact (range .hopDelay).symm
    | 14 => exact (range .linkTimeout).symm
  rw [byNumber]
  constructor
  · intro u written
    obtain ⟨p, named, write⟩ := Option.bind_eq_some_iff.1 written
    split_ifs at write with admitted
    cases write
    exact congrArg _ (answer _ .done _ (runConfigSet_admitted t named admitted))
  · intro none
    refine congrArg _ (answer t .badValue [] (runConfigSet_refused t fun p named => ?_))
    rw [State.storedParam, named, Option.bind_some] at none
    by_contra admitted
    simp [Bool.eq_true_of_not_eq_false admitted] at none

/-! ## LINE-SET (R120 to R122, R155) -/

theorem lineOf_named {line : Octet} {id : BankId} {i : Fin 8}
    (named : line.toNat = 8 * (match id with | .a => 0 | .b => 1 | .c => 2) + i.val) : lineOf line = some (id, i) := by
  have small := i.isLt
  have at' : line.toNat % 8 = i.val := by cases id <;> dsimp only at named <;> omega
  have place : (⟨line.toNat % 8, Nat.mod_lt _ (by decide)⟩ : Fin 8) = i := Fin.ext at'
  have bank : line.toNat / 8 = (match id with | .a => 0 | .b => 1 | .c => 2) := by
    cases id <;> dsimp only at named ⊢ <;> omega
  simp only [lineOf, place, bank]
  cases id <;> rfl

theorem lineOf_large {line : Octet} (large : 23 < line.toNat) : lineOf line = none := by
  unfold lineOf
  dsimp only
  split
  · omega
  · omega
  · omega
  · rfl

theorem lineOf_small {line : Octet} (small : ¬23 < line.toNat) : ∃ id i, lineOf line = some (id, i) := by
  unfold lineOf
  dsimp only
  split
  · exact ⟨_, _, rfl⟩
  · exact ⟨_, _, rfl⟩
  · exact ⟨_, _, rfl⟩
  next notA notB notC =>
    have none : ¬line.toNat / 8 = 0 ∧ ¬line.toNat / 8 = 1 ∧ ¬line.toNat / 8 = 2 := ⟨notA, notB, notC⟩
    omega

/-- A STATIC value is 0 or 1 (R121). -/
theorem staticValue_iff (p : Word16) : p = 0 ∨ p = 1 ↔ ¬1 < p.toNat := by
  rw [BitVec.toNat_eq, BitVec.toNat_eq]
  simp
  omega

/-- A period of 2 at least and an on-time from 1 to below the period (R120). -/
theorem cadenceValues_iff (p q : Word16) :
    2 ≤ p.toNat ∧ 1 ≤ q.toNat ∧ q.toNat < p.toNat ↔ ¬(p.toNat < 2 ∨ q = 0 ∨ p.toNat ≤ q.toNat) := by
  rw [BitVec.toNat_eq]
  simp
  omega

theorem runLineSet_spelled (t : State) (line mode : Octet) (p q : Word16) :
    runLineSet t ([line, mode] ++ octets16 p ++ octets16 q) =
      if mode = 0 then
        match lineOf line with
        | none => .refused t .badValue
        | some (id, i) =>
          if p = 0 ∨ p = 1 then lineSetBank t id fun b => b.applyStep (oneLineStep i (p == 1) .plain)
          else .refused t .badValue
      else if mode = 1 then
        match lineOf line with
        | none => .refused t .badValue
        | some (id, i) =>
          if 2 ≤ p.toNat ∧ 1 ≤ q.toNat ∧ q.toNat < p.toNat then
            lineSetBank t id fun b => b.startCadence i p.toNat q.toNat
          else .refused t .badValue
      else .refused t .badValue := by
  simp only [octets16, List.cons_append, List.nil_append, runLineSet, word16_of_octets] <;> rfl

theorem runLineSet_static (t : State) {line : Octet} {p : Word16} (q : Word16) {id : BankId} {i : Fin 8}
    (named : lineOf line = some (id, i)) (value : ¬1 < p.toNat) :
    runLineSet t ([line, 0] ++ octets16 p ++ octets16 q)
      = lineSetBank t id fun b => b.applyStep (oneLineStep i (p == 1) .plain) := by
  rw [runLineSet_spelled, if_pos rfl, named]
  exact if_pos ((staticValue_iff p).2 value)

theorem runLineSet_cadence (t : State) {line : Octet} {p q : Word16} {id : BankId} {i : Fin 8}
    (named : lineOf line = some (id, i)) (values : ¬(p.toNat < 2 ∨ q = 0 ∨ p.toNat ≤ q.toNat)) :
    runLineSet t ([line, 1] ++ octets16 p ++ octets16 q)
      = lineSetBank t id fun b => b.startCadence i p.toNat q.toNat := by
  rw [runLineSet_spelled, if_neg (by decide), if_pos rfl, named]
  exact if_pos ((cadenceValues_iff p q).2 values)

theorem runLineSet_badStatic (t : State) {line : Octet} {p : Word16} (q : Word16) (bad : 23 < line.toNat ∨ 1 < p.toNat) :
    runLineSet t ([line, 0] ++ octets16 p ++ octets16 q) = .refused t .badValue := by
  rw [runLineSet_spelled, if_pos rfl]
  by_cases large : 23 < line.toNat
  · rw [lineOf_large large]
  · obtain ⟨id, i, named⟩ := lineOf_small large
    rw [named]
    exact if_neg fun value => (staticValue_iff p).1 value (bad.resolve_left large)

theorem runLineSet_badCadence (t : State) {line : Octet} {p q : Word16}
    (bad : 23 < line.toNat ∨ p.toNat < 2 ∨ q = 0 ∨ p.toNat ≤ q.toNat) :
    runLineSet t ([line, 1] ++ octets16 p ++ octets16 q) = .refused t .badValue := by
  rw [runLineSet_spelled, if_neg (by decide), if_pos rfl]
  by_cases large : 23 < line.toNat
  · rw [lineOf_large large]
  · obtain ⟨id, i, named⟩ := lineOf_small large
    rw [named]
    exact if_neg fun values => (cadenceValues_iff p q).1 values (bad.resolve_left large)

theorem runLineSet_otherMode (t : State) (line : Octet) {mode : Octet} (p q : Word16) (other : 1 < mode.toNat) :
    runLineSet t ([line, mode] ++ octets16 p ++ octets16 q) = .refused t .badValue := by
  have not (small : Octet) (low : small.toNat ≤ 1) : mode ≠ small := fun same => by rw [same] at other; omega
  rw [runLineSet_spelled, if_neg (not 0 (by decide)), if_neg (not 1 (by decide))]

theorem lineSetBank_armed (t : State) (id : BankId) (f : Bank → Bank) (armed : t.run = .armed) :
    lineSetBank t id f
      = .done { t with out := t.out.setBank id (f (t.out.bank id)) } [(bankCode id).zeroExtend 8, (f (t.out.bank id)).latch] :=
  if_pos armed

theorem lineSetBank_refused (t : State) (id : BankId) (f : Bank → Bank) (notArmed : t.run ≠ .armed) :
    lineSetBank t id f = .refused t .wrongState := if_neg notArmed

/-- Settles O41: the line number names a bank and a line, the values are checked, and the run state decides. -/
theorem lineSetGivesALineItsMode : Obligations.LineSetGivesALineItsMode := by
  unfold Obligations.LineSetGivesALineItsMode
  intro s h line mode p q id i x fm fs fc code named bit b static cadence badStatic badCadence
  have fits (mode : Octet) : ([line, mode] ++ octets16 p ++ octets16 q).length < 96 := by simp
  have answer (mode : Octet) := State.receiveFrame_answered .lineSet ([line, mode] ++ octets16 p ++ octets16 q) (fits mode) x
  have codeOctet : (bankCode id).zeroExtend 8 = code := by
    unfold code
    cases id <;> rfl
  have place (n : named) : lineOf line = some (id, i) := lineOf_named (n.trans (by unfold code; cases id <;> rfl))
  refine ⟨fun n good armed => ?_, fun n good armed => ?_, fun bad => ?_, fun bad => ?_, fun good notArmed => ?_,
    fun good notArmed => ?_, fun other => ?_⟩
  · obtain ⟨_, value⟩ := not_or.1 good
    refine congrArg _ (answer 0 _ .done _ ((runLineSet_static _ q (place n) value).trans ?_))
    have step : oneLineStep i (p == 1) .plain
        = { value := if p = 1 then bit else 0, mask := bit, mode := .plain, pulse := none } := by
      simp only [oneLineStep, beq_iff_eq]
      rfl
    rw [lineSetBank_armed (s.taken fs) id _ armed, codeOctet, step]
    rfl
  · obtain ⟨_, values⟩ := not_or.1 good
    refine congrArg _ (answer 1 _ .done _ ((runLineSet_cadence _ (place n) values).trans ?_))
    rw [lineSetBank_armed (s.taken fc) id _ armed, codeOctet]
    rfl
  · exact congrArg _ (answer 0 _ .badValue [] (runLineSet_badStatic _ q bad))
  · exact congrArg _ (answer 1 _ .badValue [] (runLineSet_badCadence _ bad))
  · obtain ⟨small, value⟩ := not_or.1 good
    obtain ⟨id', i', named'⟩ := lineOf_small small
    exact congrArg _ (answer 0 _ .wrongState []
      ((runLineSet_static _ q named' value).trans (lineSetBank_refused (s.taken fs) id' _ notArmed)))
  · obtain ⟨small, values⟩ := not_or.1 good
    obtain ⟨id', i', named'⟩ := lineOf_small small
    exact congrArg _ (answer 1 _ .wrongState []
      ((runLineSet_cadence _ named' values).trans (lineSetBank_refused (s.taken fc) id' _ notArmed)))
  · exact answer mode _ .badValue [] (runLineSet_otherMode _ line p q other)

/-! ## EVENT-FETCH (R159, R170) -/

theorem runEventFetch_good (t : State) {max : Octet} (good : 1 ≤ max.toNat ∧ max.toNat ≤ 4) :
    runEventFetch t [max] = .done { t with events := t.events.fetch max.toNat }
      (octets16 (BitVec.ofNat 16 t.events.overflow) ++ [octetOf (t.events.fetchable max.toNat).length]
        ++ (t.events.fetchable max.toNat).flatMap EventRecord.octets) :=
  if_pos good

theorem runEventFetch_bad (t : State) {max : Octet} (bad : ¬(1 ≤ max.toNat ∧ max.toNat ≤ 4)) :
    runEventFetch t [max] = .refused t .badValue := if_neg bad

/-- Settles O45: the maximum decides, and the list is split where the records reported end. -/
theorem eventFetchMarksTheOldest : Obligations.EventFetchMarksTheOldest := by
  unfold Obligations.EventFetchMarksTheOldest
  intro s h max x f t shown good
  have answer := State.receiveFrame_answered .eventFetch [max] (by simp) x
  exact ⟨fun inRange => congrArg _ (answer _ .done _ (runEventFetch_good t inRange)),
    fun outside => congrArg _ (answer t .badValue [] (runEventFetch_bad t outside))⟩

end Sys2Proof.Machine
end

section
/-! The statements about ADDR-SET, EVENT-ACK, RESET SOFT and RESET FULL, and commands that are refused or dropped (R53 to
R58, R138 to R144, R160 to R163, R171 to R173). -/

namespace Sys2Proof.Machine

variable {s : State} {h : Header}

/-! ## ADDR-SET (R53, R55 to R58, R150) -/

theorem AddrEntry.written_eq (old : AddrEntry) (address flags : Octet) :
    old.written address flags =
      { address := if flags.getLsbD 7 then some address else none, bankMask := flags.setWidth 3
        acceptMark := flags.getLsbD 4, acceptSchedule := flags.getLsbD 5
        lastSeq := if (if flags.getLsbD 7 then some address else none) = old.address then old.lastSeq else none } := by
  have bits : flags.extractLsb' 0 3 = flags.setWidth 3 := BitVec.setWidth_eq_extractLsb' (by decide) |>.symm
  rw [AddrEntry.written, bits]

theorem runAddrSet_entry (t : State) {index : Octet} {i : Fin 9} (address flags : Octet) (named : index.toNat = i.val) :
    runAddrSet t [index, address, flags] =
      let old := t.table.entries[i]
      let new := old.written address flags
      if !addrSetValid i address flags then { Executed.refused t .badValue with data := old.replyOctets index }
      else if flags.getLsbD 7 && t.table.heldElsewhere i address then
        { Executed.refused t .inUse with data := old.replyOctets index }
      else if i = 0 then
        { Executed.done { t with table := t.table.setEntry 0 { new with address := old.address } } (new.replyOctets index)
          with newUnit := new.address }
      else .done { t with table := t.table.setEntry i new } (new.replyOctets index) := by
  simp only [runAddrSet, entryIndex_of_toNat named]

theorem runAddrSet_large (t : State) {index : Octet} (address flags : Octet) (large : 8 < index.toNat) :
    runAddrSet t [index, address, flags] = .refused t .badValue := by
  simp only [runAddrSet, entryIndex_of_large large]

/-- A command whose work moves the unit address is answered before the move (R58). -/
theorem State.executeCommand_moved (t u : State) (f : Frame) (r : CommandResult) (data : List Octet) (a : Octet)
    (ran : executePayload t f.payload = { state := u, result := r, data, newUnit := some a, fullReset := false }) :
    t.executeCommand f.received = (u.answered f f.codeOctet r data).applyUnit (some a) := by
  have payload : f.received.frame.payload = f.payload := rfl
  simp only [State.executeCommand, payload, ran, Bool.or_false]
  rfl

theorem State.answered_table (t : State) (f : Frame) (code : Octet) (r : CommandResult) (data : List Octet) :
    (t.answered f code r data).table = t.table := by
  simp [State.answered]

theorem State.applyUnit_entry {t : State} {a : Octet} {e : AddrEntry}
    (entry : { t.table.entries[0] with address := some a } = e) :
    t.applyUnit (some a) = { t with table := { t.table with entries := t.table.entries.set 0 e } } := by
  rw [State.applyUnit, entry]
  rfl

/-- Settles O38: the index names the entry, the checks decide, and entry 0 takes its address after the reply. -/
theorem addrSetWritesTheEntry : Obligations.AddrSetWritesTheEntry := by
  unfold Obligations.AddrSetWritesTheEntry
  intro s h i index address flags x named f t old enabled valid inUse held new entry write
  have fits : [index, address, flags].length < 96 := by simp
  have answer := State.receiveFrame_answered .addrSet [index, address, flags] fits x
  have written : old.written address flags = new := old.written_eq address flags
  have validIff : addrSetValid i address flags = true ↔ valid := addrSetValid_iff i address flags
  have inUseIff : (flags.getLsbD 7 && t.table.heldElsewhere i address) = true ↔ inUse := by
    rw [Bool.and_eq_true, AddressTable.heldElsewhere_iff]
    exact Iff.rfl
  have work (n : named) := runAddrSet_entry t address flags n
  refine ⟨fun large => ?_, fun n bad => ?_, fun n good used => ?_, fun n good free many => ?_, fun n good free unit => ?_⟩
  · exact congrArg _ (answer t .badValue [] (runAddrSet_large t address flags large))
  · refine congrArg _ (answer t .badValue (entry old) ((work n).trans (if_pos ?_)))
    simpa using mt validIff.1 bad
  · refine congrArg _ (answer t .inUse (entry old) ((work n).trans ((if_neg ?_).trans (if_pos (inUseIff.2 used)))))
    simpa using validIff.2 good
  all_goals
    have passes : ¬(!addrSetValid i address flags) = true := by simpa using validIff.2 good
    have ran := (work n).trans ((if_neg passes).trans (if_neg (mt inUseIff.1 free)))
  · refine congrArg _ (answer (write t new) .done (entry new) (ran.trans ((if_neg many).trans ?_)))
    rw [← written]
    rfl
  · subst unit
    have on : enabled = true := good.2.2.1 rfl
    have moved : new.address = some address := if_pos on
    have result := ran.trans (if_pos rfl)
    rw [show t.table.entries[(0 : Fin 9)] = old from rfl, written, moved] at result
    refine congrArg Host.Outcome.next ((State.receiveFrame_command .addrSet _ fits x).trans ?_)
    refine (State.executeCommand_moved t _ f .done (entry new) address
      ((executePayload_command t .addrSet _).trans result)).trans ?_
    refine State.applyUnit_entry ?_
    rw [State.answered_table, ← moved]
    exact congrArg (fun e : AddrEntry => { e with address := new.address }) (Vector.getElem_set_self _)

/-! ## EVENT-ACK (R160, R171 to R173) -/

theorem EventList.accepts_eq_false_iff (l : EventList) (sequence : Word16) :
    l.accepts sequence = false ↔ ∀ x ∈ l.records, x.sequence = sequence → x.fetched = false := by
  simp only [EventList.accepts, List.any_eq_false, Bool.and_eq_true, beq_iff_eq, not_and]
  refine forall₂_congr fun x held => ⟨fun apart same => ?_, fun unfetched on same => ?_⟩
  · exact Bool.eq_false_iff.2 fun on => apart on same
  · exact Bool.eq_false_iff.1 (unfetched same) on

section Acknowledged

variable {l : EventList} {sequence : Word16} {older newer : List EventRecord} {e : EventRecord}
  (records : l.records = older ++ e :: newer) (named : e.sequence = sequence)
  (fresh : ∀ x ∈ older, x.sequence ≠ sequence)

include records named

theorem EventList.accepts_of_fetched (fetched : e.fetched = true) : l.accepts sequence = true := by
  simp [EventList.accepts, records, named, fetched]

include fresh

theorem EventList.removedBy_of_first : l.removedBy sequence = older.length + 1 := by
  have none : ¬older.findIdx (·.sequence == sequence) < older.length := by
    rw [List.findIdx_lt_length]
    simpa using fresh
  rw [EventList.removedBy, records, List.findIdx_append, if_neg none, List.findIdx_cons, beq_iff_eq.2 named, cond_true,
    Nat.zero_add]

/-- The record named and all older ones go (R172). -/
theorem EventList.drop_removedBy : l.records.drop (l.removedBy sequence) = newer := by
  rw [EventList.removedBy_of_first records named fresh, records, List.append_cons]
  exact List.drop_left' (by simp)

end Acknowledged

theorem EventList.acknowledge_nothingLost (l : EventList) (sequence : Word16) (now : Word32) (timeValid : Bool)
    (kept : l.overflow = 0) :
    l.acknowledge sequence now timeValid = { l with records := l.records.drop (l.removedBy sequence) } := if_pos kept

theorem EventList.acknowledge_lost (l : EventList) (sequence : Word16) (now : Word32) (timeValid : Bool)
    (lost : l.overflow ≠ 0) :
    l.acknowledge sequence now timeValid = { l with
      records := l.records.drop (l.removedBy sequence)
        ++ [(Report.overflow l.overflow).toRecord l.nextSeq now timeValid]
      nextSeq := l.nextSeq + 1, overflow := 0 } := if_neg lost

theorem Timebase.timeValid_eq_decide (t : Timebase) : t.timeValid = decide (t.sync = .locked ∨ t.sync = .holdover) := by
  cases sync : t.sync <;> simp [Timebase.timeValid, sync]

theorem runEventAck_held (t : State) {sequence : Word16} (accepted : t.events.accepts sequence = true) :
    runEventAck t (octets16 sequence)
      = .done { t with events := t.events.acknowledge sequence t.time.networkTime t.time.timeValid }
          [octetOf (t.events.removedBy sequence)] := by
  simp only [octets16, runEventAck, word16_of_octets, accepted, if_true]

theorem runEventAck_notHeld (t : State) {sequence : Word16} (notHeld : t.events.accepts sequence = false) :
    runEventAck t (octets16 sequence) = .refused t .notHeld := by
  simp only [octets16, runEventAck, word16_of_octets, notHeld, Bool.false_eq_true, if_false]

/-- Settles O46: the first record with the sequence splits the list, and the losses decide what follows it. -/
theorem eventAckRemovesFetchedRecords : Obligations.EventAckRemovesFetchedRecords := by
  unfold Obligations.EventAckRemovesFetchedRecords
  intro s h sequence older newer e x f t n lost named
  have answer := State.receiveFrame_answered .eventAck (octets16 sequence) (by simp [octets16]) x
  refine ⟨fun ⟨records, same, fetched, fresh⟩ none => ?_, fun ⟨records, same, fetched, fresh⟩ some => ?_, fun closed => ?_⟩
  · refine congrArg _ (answer _ .done [n] ((runEventAck_held t (EventList.accepts_of_fetched records same fetched)).trans ?_))
    rw [EventList.acknowledge_nothingLost t.events sequence _ _ none, EventList.drop_removedBy (l := t.events) records same fresh,
      EventList.removedBy_of_first (l := t.events) records same fresh]
    rfl
  · refine congrArg _ (answer _ .done [n] ((runEventAck_held t (EventList.accepts_of_fetched records same fetched)).trans ?_))
    rw [EventList.acknowledge_lost t.events sequence _ _ some, EventList.drop_removedBy (l := t.events) records same fresh,
      EventList.removedBy_of_first (l := t.events) records same fresh, Timebase.timeValid_eq_decide]
    rfl
  · exact congrArg _ (answer t .notHeld [] (runEventAck_notHeld t ((t.events.accepts_eq_false_iff sequence).2 closed)))

/-! ## RESET SOFT and RESET FULL (R138, R161, R162) -/

theorem State.softReset_safe (safe : s.run = .safe) :
    s.softReset = (({ s with run := .safe }).safeTransitions).flushAll .softReset := by
  simp only [State.softReset, safe]

theorem State.softReset_notSafe (notSafe : s.run ≠ .safe) :
    s.softReset = ((({ s with run := .safe }).safeTransitions).flushAll .softReset).report
      (.runChange .softReset s.run .safe s.steps.held.length) := by
  cases run : s.run with
  | safe => exact absurd run notSafe
  | armed | failsafe => simp only [State.softReset, run]

/-- Settles O47: a soft reset is what Run Control does, a full reset waits for its reply. -/
theorem resetCommandsStopOrWait : Obligations.ResetCommandsStopOrWait := by
  unfold Obligations.ResetCommandsStopOrWait
  constructor
  · intro s h x f n quiet flushed
    have answer := State.receiveFrame_answered .resetSoft [] (by simp) x
    refine ⟨fun safe => congrArg _ (answer _ .done [] ?_), fun notSafe => congrArg _ (answer _ .done [] ?_)⟩
    · exact congrArg (Executed.done · []) (State.softReset_safe (s := s.taken f) safe)
    · exact congrArg (Executed.done · []) (State.softReset_notSafe (s := s.taken f) notSafe)
  · intro s h x f t payload
    refine congrArg _ ((State.receiveFrame_command .resetFull [] (by simp) x).trans ?_)
    have ran : executePayload t f.payload = { Executed.done t [] with fullReset := true } :=
      executePayload_command t .resetFull []
    have payloadKept : f.received.frame.payload = f.payload := rfl
    change t.executeCommand f.received = _
    simp only [State.executeCommand, payloadKept, ran, Bool.or_true]
    rfl

end Sys2Proof.Machine
end

section
/-! The statement about commands that are refused or dropped (R141 to R144, R163, R178, Table 11.5). -/

namespace Sys2Proof.Machine

variable {s : State} {h : Header}

/-! ## Codes and lengths (R144, Table 11.5) -/

/-- The length of a command's payload, its code included. -/
def CommandCode.length : CommandCode → Nat
  | .ident | .arm | .disarm | .resetSoft | .resetFull => 1
  | .status | .addrGet | .configGet | .flush | .eventFetch => 2
  | .cancel | .queuePeek | .eventAck => 3
  | .addrSet => 4
  | .configSet => 6
  | .lineSet => 7

theorem runCommand_badLength (c : CommandCode) (t : State) (params : List Octet) (bad : params.length + 1 ≠ c.length) :
    runCommand c t params = .refused t .badFormat := by
  cases c with
  | ident | arm | disarm | resetSoft | resetFull =>
    match params, bad with
    | _ :: _, _ => rfl
  | status | addrGet | configGet | flush | eventFetch =>
    match params, bad with
    | [], _ | _ :: _ :: _, _ => rfl
  | cancel | queuePeek | eventAck =>
    match params, bad with
    | [], _ | [_], _ | _ :: _ :: _ :: _, _ => rfl
  | addrSet =>
    match params, bad with
    | [], _ | [_], _ | [_, _], _ | _ :: _ :: _ :: _ :: _, _ => rfl
  | configSet =>
    match params, bad with
    | [], _ | [_], _ | [_, _], _ | [_, _, _], _ | [_, _, _, _], _ | _ :: _ :: _ :: _ :: _ :: _ :: _, _ => rfl
  | lineSet =>
    match params, bad with
    | [], _ | [_], _ | [_, _], _ | [_, _, _], _ | [_, _, _, _], _ | [_, _, _, _, _], _
      | _ :: _ :: _ :: _ :: _ :: _ :: _ :: _, _ => rfl

theorem executePayload_unknown (t : State) {code : Octet} (params : List Octet) (unknown : commandOf code = none) :
    executePayload t (code :: params) = .refused t .unknown := by
  simp only [executePayload, unknown]

theorem executePayload_badLength (t : State) {code : Octet} {params : List Octet} {c : CommandCode}
    (named : commandOf code = some c) (bad : params.length + 1 ≠ c.length) :
    executePayload t (code :: params) = .refused t .badFormat := by
  simp only [executePayload, named, runCommand_badLength c t params bad]

/-! ## A command frame at the unit address (R141 to R143) -/

section ForUnit

variable {payload : List Octet} (fits : payload.length ≤ 96)

include fits

theorem State.receiveFrame_forUnit (unit : s.ForUnit h) :
    s.receiveFrame (frameFor h 0x53 payload)
      = (s.taken (frameFor h 0x53 payload)).takeCommand (frameFor h 0x53 payload).received := by
  obtain ⟨ready, address, notHead, notOwn⟩ := unit
  have reaches : s.Reaches h 0 :=
    ⟨ready, fun own => notOwn (Option.some.inj (own.symm.trans address)), notHead, s.table.matching_unitAddress _ address⟩
  rw [State.receiveFrame_reaches reaches 0x53 payload fits, if_pos rfl]
  rfl

/-- A frame that is executed and refused is answered from the state its arrival leaves. -/
theorem State.receiveFrame_refused (x : s.Executes h) (r : CommandResult)
    (refused : executePayload (s.taken (frameFor h 0x53 payload)) payload
      = .refused (s.taken (frameFor h 0x53 payload)) r) :
    s.receiveFrame (frameFor h 0x53 payload)
      = (s.taken (frameFor h 0x53 payload)).answered (frameFor h 0x53 payload) (payload.headD 0) r [] := by
  obtain ⟨unit, noReset, room, fresh⟩ := x
  calc s.receiveFrame (frameFor h 0x53 payload)
      = (s.taken (frameFor h 0x53 payload)).takeCommand (frameFor h 0x53 payload).received :=
        State.receiveFrame_forUnit fits unit
    _ = (s.taken (frameFor h 0x53 payload)).executeCommand (frameFor h 0x53 payload).received :=
        State.takeCommand_executes _ noReset room fresh
    _ = _ := State.executeCommand_received _ _ _ r [] refused

end ForUnit

theorem State.takeCommand_resetPending (b : Buffer) (pending : s.cmd.resetPending = true) :
    s.takeCommand b = s.dropCommand b.frame .resetPending := if_pos pending

theorem State.takeCommand_full (b : Buffer) (noReset : s.cmd.resetPending = false) (full : 3 ≤ s.tx.insertSide) :
    s.takeCommand b = s.dropCommand b.frame .insertFull := by
  have noRoom : ¬s.tx.insertSide < Config.insertLimit := Nat.not_lt.2 full
  simp only [State.takeCommand, noReset, Bool.false_eq_true, if_false, noRoom]
  split <;> rfl

theorem State.takeCommand_duplicate (b : Buffer) (noReset : s.cmd.resetPending = false)
    (room : s.tx.insertSide < Config.insertLimit) {l : LastCommand} (recorded : s.cmd.last = some l)
    (same : l.src = b.frame.src ∧ l.seq = b.frame.seq) :
    s.takeCommand b = s.joinInsert (b.replyBuffer l.payload false) := by
  have duplicate : s.cmd.duplicate b.frame = some l.payload := by
    simp [CommandUnit.duplicate, recorded, LastCommand.isOf, same]
  simp [State.takeCommand, noReset, duplicate, room]

/-- The buffer that a dropped command has claimed is FREE again. -/
theorem State.dropCommand_taken {f : Frame} (ready : s.ReadyForFrame) (r : DropReason) :
    (s.taken f).dropCommand f r
      = ({ s.taken f with pool.free := s.pool.free }).report (.commandDropped r (f.payload.headD 0) f.seq) := by
  rw [← State.release_atClose (f := f) ready]
  rfl

/-- Settles O48: the payload's code and length decide the answer, the Command Unit's state whether there is one. -/
theorem badCommandsAreRefusedOrDropped : Obligations.BadCommandsAreRefusedOrDropped := by
  unfold Obligations.BadCommandsAreRefusedOrDropped
  constructor
  · intro s h payload x fits f t length
    have byCode (code : Octet) : length code = (commandOf code).map CommandCode.length := by
      unfold length
      revert code
      decide
    have answer (r : CommandResult) := State.receiveFrame_refused fits x r
    refine ⟨?_, fun code first unknown => ?_, fun code first known bad => ?_⟩
    · rintro rfl
      exact answer .badFormat rfl
    all_goals
      obtain ⟨params, rfl⟩ := List.head?_eq_some_iff.1 first
      rw [byCode] at *
    · exact answer .unknown (executePayload_unknown t params (Option.map_eq_none_iff.1 unknown))
    · obtain ⟨c, named⟩ := Option.ne_none_iff_exists'.1 (mt Option.map_eq_none_iff.2 known)
      refine answer .badFormat (executePayload_badLength t named fun same => bad ?_)
      rw [named, List.length_cons, same]
      rfl
  · intro s h payload unit fits f dropped again
    have arrives : s.receiveFrame f = (s.taken f).takeCommand f.received := State.receiveFrame_forUnit fits unit
    have dropping (r : DropReason) : (s.taken f).dropCommand f r = dropped r := State.dropCommand_taken unit.1 r
    refine ⟨fun pending => ?_, fun noReset full => ?_, fun noReset room again l recorded => ?_⟩
    · exact arrives.trans ((State.takeCommand_resetPending (s := s.taken f) f.received pending).trans (dropping .resetPending))
    · exact arrives.trans ((State.takeCommand_full (s := s.taken f) f.received noReset full).trans (dropping .insertFull))
    · obtain ⟨l', recorded', same⟩ := again
      cases Option.mem_unique recorded recorded'
      exact arrives.trans (State.takeCommand_duplicate (s := s.taken f) f.received noReset room recorded same)

end Sys2Proof.Machine
end

section
/-! The statements about the step, events that are not outstanding, the reset pin, the tick and start-up (R16, R17, R48,
R49, R61 to R64, R107 to R109). -/

namespace Sys2Proof.Machine

variable {s : State}

/-! ## The step and absent events -/

theorem step_of_pending {c : Instr} {rest : List Instr} (front : s.pending = c :: rest) :
    step s = exec c { s with pending := rest } := by
  rw [step, front]

theorem step_of_empty (empty : s.pending = []) : step s = .next s := by
  rw [step, empty]

/-- Settles O1. -/
theorem stepRunsTheFrontCommand : Obligations.StepRunsTheFrontCommand := by
  unfold Obligations.StepRunsTheFrontCommand
  exact fun s c rest => step_of_pending

theorem State.completeTransmission_idle (straps : BitVec 6) (idle : s.tx.state.isSending = false) :
    s.completeTransmission straps = s := by
  unfold State.completeTransmission
  cases state : s.tx.state with
  | bypass | idleFill => rfl
  | sending b tag =>
    rw [state] at idle
    exact absurd idle (by simp [TxState.isSending])

/-- An expiry that is not outstanding, taken by its command, changes nothing. -/
theorem State.takeExpiry_notDue {e : Expiry} (absent : s.isDue e = false) : s.takeExpiry e = s := by
  cases e with
  | startUp => exact if_neg (Bool.eq_false_iff.1 absent)
  | silence => exact s.loseActivity_of_not_due absent
  | link => exact if_neg (by simpa [State.isDue] using absent)
  | mark => exact if_neg (by simpa [State.isDue] using absent)
  | holdover => exact if_neg (by simpa [State.isDue] using absent)
  | due =>
    rcases s.takeDue_cases with same | ⟨st, rest, held, due, _⟩
    · exact same
    · exact absurd (s.stepDue_iff.2 ⟨st, by rw [held]; rfl, due⟩) (Bool.eq_false_iff.1 absent)
  | deadTime id => exact if_neg (Bool.eq_false_iff.1 absent)
  | pulse id i => exact if_neg (Bool.eq_false_iff.1 absent)
  | cadence id i => exact if_neg (Bool.eq_false_iff.1 absent)

/-- Settles O3: each guard is the negation of its event being outstanding. -/
theorem absentEventsChangeNothing : Obligations.AbsentEventsChangeNothing := by
  unfold Obligations.AbsentEventsChangeNothing
  intro s straps id i
  have absent (e : Expiry) (notDue : s.isDue e = false) : exec e.command s = .next s := by
    rw [exec_expiry_command, State.takeExpiry_notDue notDue]
  refine ⟨step_of_empty, fun high => congrArg _ (if_pos high), absent .startUp,
    fun stays => congrArg _ (s.leaveBypass_of_not_may stays), fun heard => absent .silence ?_,
    fun running => absent .link ?_, fun running => absent .mark ?_, fun running => absent .holdover ?_, absent .due,
    absent (.deadTime id), absent (.pulse id i), absent (.cadence id i),
    fun idle => congrArg _ (State.completeTransmission_idle straps idle)⟩
  · refine Bool.eq_false_iff.2 fun due => ?_
    obtain ⟨_, _, silent⟩ := s.silenceDue_iff.1 due
    omega
  all_goals exact beq_eq_false_iff_ne.2 running

/-! ## The reset pin (R16, R20, R48, R49, R109, R166) -/

/-- The unit address that the straps give: the strap value plus 1 (R48). -/
theorem sampledAddress_eq (straps : BitVec 6) : straps.zeroExtend 8 + 1 = BitVec.ofNat 8 (straps.toNat + 1) := by
  revert straps
  decide

theorem AddressTable.sampled_eq (straps : BitVec 6) : AddressTable.sampled straps = (freshNode straps).table := by
  rw [AddressTable.sampled, sampledAddress_eq]
  rfl

theorem State.allReset_eq (s : State) :
    s.allReset = { freshNode s.table.strapValue with
      downstream := s.downstream, choices := s.choices, pending := s.pending } := by
  rw [State.allReset, AddressTable.sampled_eq]
  rfl

/-- A frame being sent when RESETn falls is cut off, and nothing else is. -/
theorem State.cutTransmission_eq (s : State) :
    s.cutTransmission = { s with
      downstream := s.downstream ++ (s.tx.state.buffer.map fun b => Sent.cutFrame b.octets).toList } := by
  unfold State.cutTransmission
  cases state : s.tx.state with
  | bypass | idleFill => simp [TxState.buffer]
  | sending b tag => rfl

theorem State.resetnFalls_eq (s : State) :
    s.resetnFalls = { freshNode s.table.strapValue with
      downstream := s.downstream ++ (s.tx.state.buffer.map fun b => Sent.cutFrame b.octets).toList
      choices := s.choices
      pending := s.pending } := by
  rw [State.resetnFalls, State.allReset_eq, State.cutTransmission_eq]

/-- The reset values with RESETn high and the straps sampled, before the RESET record. -/
theorem State.allReset_sampled (s : State) (straps : BitVec 6) :
    { s.allReset with resetn := true, table := .sampled straps } = { freshNode straps with
      resetn := true, downstream := s.downstream, choices := s.choices, pending := s.pending } := by
  rw [AddressTable.sampled_eq]
  rfl

theorem State.resetnRises_eq (s : State) (straps : BitVec 6) :
    s.resetnRises straps = { freshNode straps with
      resetn := true
      events := {
        records := [{ sequence := 0, kind := .reset, severity := .info, time := 0, timeValid := false, count := 1,
                      reason := some 1, tag := none, detail := none, fetched := false }]
        nextSeq := 1, overflow := 0, attentionLevel := .warning }
      downstream := s.downstream
      choices := s.choices
      pending := s.pending } := by
  rw [State.resetnRises, State.allReset_sampled]
  rfl

theorem State.fullReset_eq (s : State) (straps : BitVec 6) :
    s.fullReset straps = { freshNode straps with
      resetn := true
      events := {
        records := [{ sequence := 0, kind := .reset, severity := .info, time := 0, timeValid := false, count := 1,
                      reason := some 2, tag := none, detail := none, fetched := false }]
        nextSeq := 1, overflow := 0, attentionLevel := .warning }
      downstream := s.downstream
      choices := s.choices
      pending := s.pending } := by
  rw [State.fullReset, State.allReset_sampled]
  rfl

theorem State.reset_eq_freshNode : State.reset = freshNode 0 := by
  rw [State.reset, AddressTable.sampled_eq]
  rfl

/-- Settles O4: both edges are the reset values written out, and the pins are the latches or 0. -/
theorem resetPinResetsAndStartsTheNode : Obligations.ResetPinResetsAndStartsTheNode := by
  unfold Obligations.ResetPinResetsAndStartsTheNode
  refine ⟨fun s id => ⟨congrArg _ s.resetnFalls_eq, ?_⟩, fun s straps low => ?_, State.reset_eq_freshNode, fun s id => ?_⟩
  · rw [State.pins, s.resetnFalls_eq]
    rfl
  · have rises : exec (.resetnRise straps) s = .next (s.resetnRises straps) :=
      congrArg Host.Outcome.next (if_neg (Bool.eq_false_iff.1 low))
    rw [rises, s.resetnRises_eq]
  · cases id <;> rfl

/-! ## The tick (R61 to R64, R114, R117, R119) -/

theorem tickTimer_eq_map (timer : Option Nat) : tickTimer timer = timer.map (· - 1) := by
  cases timer <;> rfl

theorem Timebase.advance_eq (t : Timebase) (absorbing : Prop) [Decidable absorbing]
    (at64 : absorbing ↔ (t.localTicks + 1).toNat % 64 = 0) :
    t.advance = if absorbing ∧ 0 < t.residue then 2 else if absorbing ∧ t.residue < 0 then 0 else 1 := by
  unfold Timebase.advance
  by_cases h : absorbing
  · simp only [if_pos (at64.1 h), h, true_and]
  · simp only [if_neg (mt at64.2 h), h, false_and, if_false]

theorem Timebase.absorbed_eq (t : Timebase) (absorbing : Prop) [Decidable absorbing]
    (at64 : absorbing ↔ (t.localTicks + 1).toNat % 64 = 0) :
    t.absorbed = if absorbing ∧ 0 < t.residue then t.residue - 1
      else if absorbing ∧ t.residue < 0 then t.residue + 1 else t.residue := by
  unfold Timebase.absorbed
  by_cases h : absorbing
  · simp only [if_pos (at64.1 h), h, true_and]
    split_ifs <;> omega
  · simp only [if_neg (mt at64.2 h), h, false_and, if_false]

theorem Timebase.tick_eq (t : Timebase) :
    t.tick = { t with
      localTicks := t.localTicks + 1
      networkTime := t.networkTime + t.advance
      residue := t.absorbed
      markTimer := t.markTimer.map (· - 1)
      holdoverTimer := t.holdoverTimer.map (· - 1) } := by
  rw [Timebase.tick, tickTimer_eq_map, tickTimer_eq_map]

theorem LinkReceiver.tick_eq (l : LinkReceiver) :
    l.tick = { l with linkTimer := l.linkTimer.map (· - 1), silence := min (l.silence + 1) 2 } := by
  rw [LinkReceiver.tick, tickTimer_eq_map]
  rfl

theorem State.settle_of_settled (none : s.outstanding = []) (stays : s.mayLeaveBypass = false) : s.settle = s := by
  rw [State.settle, State.settleUpTo_of_settled _ none, s.leaveBypass_of_not_may stays]

/-- Settles O5: a settled node only counts. -/
theorem tickAdvancesTimeAndTimers : Obligations.TickAdvancesTimeAndTimers := by
  unfold Obligations.TickAdvancesTimeAndTimers
  intro s
  refine ⟨fun low => congrArg _ (if_neg (Bool.eq_false_iff.1 low)), ?_⟩
  intro high none stays absorbing line bank
  have lineTick : line = LineMode.tick := by
    funext m
    cases m <;> rfl
  have ticks : exec .tickEvent s = .next s.advance :=
    congrArg Host.Outcome.next ((if_pos high).trans (congrArg _ (State.settle_of_settled none stays)))
  rw [ticks, State.advance, Timebase.tick_eq, LinkReceiver.tick_eq, Timebase.advance_eq _ absorbing Iff.rfl,
    Timebase.absorbed_eq _ absorbing Iff.rfl]
  unfold bank
  rw [lineTick]
  rfl

/-! ## Start-up and IDLEs (R17, R37, R38) -/

theorem LinkReceiver.outsideFrame_iff (l : LinkReceiver) :
    l.outsideFrame = true ↔ l.rx ≠ .inSync ∨ l.bracketOpen = false := by
  cases rx : l.rx <;> simp [LinkReceiver.outsideFrame, rx]

theorem State.mayLeaveBypass_iff (s : State) :
    s.mayLeaveBypass = true ↔ s.resetn = true ∧ s.tx.state = .bypass ∧ s.tx.startUpDone = true
      ∧ (s.link.rx ≠ .inSync ∨ s.link.bracketOpen = false) := by
  simp only [State.mayLeaveBypass, Bool.and_eq_true, and_assoc, s.inBypass_iff, s.link.outsideFrame_iff]

theorem State.notInBypass (out : s.tx.state ≠ .bypass) : s.inBypass = false :=
  Bool.eq_false_iff.2 (mt s.inBypass_iff.1 out)

theorem State.sendIdle_idleFill (idle : s.tx.state = .idleFill) :
    s.sendIdle = { s with tx.gap := min (s.tx.gap + 1) 2, downstream := s.downstream ++ [.symbol .idle] } := by
  have stays := s.mayLeaveBypass_of_not_inBypass (State.notInBypass (by simp [idle]))
  simp only [State.sendIdle, s.leaveBypass_of_not_may stays, idle, raiseGap]

theorem State.sendIdle_sending {b : Buffer} {tag : Tag} (sends : s.tx.state = .sending b tag) :
    s.sendIdle = if s.tx.gap < 2 then
        { s with tx.gap := min (s.tx.gap + 1) 2, downstream := s.downstream ++ [.symbol .idle] }
      else s := by
  have stays := s.mayLeaveBypass_of_not_inBypass (State.notInBypass (by simp [sends]))
  simp only [State.sendIdle, s.leaveBypass_of_not_may stays, sends, raiseGap]

theorem TxState.isSending_iff (t : TxState) : t.isSending = true ↔ ∃ b tag, t = .sending b tag := by
  cases t <;> simp [TxState.isSending]

/-- Settles O7: start-up and the leaving of BYPASS by their guards, IDLEs by the state of the transmitter. -/
theorem startUpLeavesBypassAndIdles : Obligations.StartUpLeavesBypassAndIdles := by
  unfold Obligations.StartUpLeavesBypassAndIdles
  intro s high
  refine ⟨fun bypass notDone at256 => congrArg _ (if_pos (s.startUpDue_iff.2 ⟨high, bypass, notDone, at256⟩)),
    fun bypass done outside => congrArg _ (if_pos (s.mayLeaveBypass_iff.2 ⟨high, bypass, done, outside⟩)),
    fun idles => congrArg Host.Outcome.next ?_, fun sends full => congrArg Host.Outcome.next ?_⟩
  · rcases idles with idle | ⟨sends, short⟩
    · exact State.sendIdle_idleFill idle
    · obtain ⟨b, tag, sends⟩ := s.tx.state.isSending_iff.1 sends
      exact (State.sendIdle_sending sends).trans (if_pos short)
  · obtain ⟨b, tag, sends⟩ := s.tx.state.isSending_iff.1 sends
    exact (State.sendIdle_sending sends).trans (if_neg (Nat.not_lt.2 full))

end Sys2Proof.Machine
end

section
/-! The statements about symbols outside IN-SYNC and in BYPASS (R2 to R6, R16, R17, R37). -/

namespace Sys2Proof.Machine

variable {s : State}

theorem exec_symbol (sym : Symbol) (s : State) : exec sym.command s = .next (s.receive sym) := by
  cases sym <;> rfl

/-! ## One symbol (R2, R16, R17) -/

theorem State.mirror_eq (s : State) (sym : Symbol) :
    s.mirror sym = if s.tx.state = .bypass then { s with downstream := s.downstream ++ [.symbol sym] } else s := by
  rw [State.mirror]
  simp only [s.inBypass_iff]

theorem State.mirror_bypass (bypass : s.tx.state = .bypass) (sym : Symbol) :
    s.mirror sym = { s with downstream := s.downstream ++ [.symbol sym] } :=
  if_pos (s.inBypass_iff.2 bypass)

theorem State.receive_low (low : s.resetn = false) (sym : Symbol) : s.receive sym = s.mirror sym :=
  if_neg (Bool.eq_false_iff.1 low)

theorem State.heard_mirror (s : State) (sym : Symbol) : s.heard.mirror sym = (s.mirror sym).heard := by
  have same : s.heard.inBypass = s.inBypass := rfl
  unfold State.mirror
  rw [same]
  split <;> rfl

/-- A symbol that does not make the node leave BYPASS is sent on in BYPASS, and the receiver takes it. -/
theorem State.receive_high (high : s.resetn = true) (stays : s.mayLeaveBypass = false) (sym : Symbol) :
    s.receive sym = ((s.mirror sym).heard).receiverTakes sym := by
  rw [State.receive, if_pos high, s.leaveBypass_of_not_may stays, s.heard_mirror]

/-! ## HUNTING and NO-SIGNAL (R3, R5, R6) -/

/-- The IDLE run a symbol out of IN-SYNC continues: the first symbol after NO-SIGNAL starts it again. -/
def LinkReceiver.huntingRun (l : LinkReceiver) : Nat :=
  match l.rx with
  | .noSignal => 0
  | .hunting | .inSync => l.idleRun

theorem LinkReceiver.hunting_eq (l : LinkReceiver) (hunting : l.rx = .hunting) :
    { l with rx := .hunting, idleRun := l.huntingRun } = l := by
  cases l
  cases hunting
  rfl

theorem State.receiverTakes_searching (out : s.link.rx ≠ .inSync) (sym : Symbol) :
    s.receiverTakes sym
      = ({ s with link := { s.link with rx := .hunting, idleRun := s.link.huntingRun } } : State).hunt sym := by
  cases rx : s.link.rx with
  | noSignal => simp only [State.receiverTakes, LinkReceiver.huntingRun, rx]
  | hunting => simp only [State.receiverTakes, rx, s.link.hunting_eq rx]
  | inSync => exact absurd rx out

section Hunting

variable {u : State}

theorem State.hunt_other {sym : Symbol} (other : sym ≠ .idle) : u.hunt sym = { u with link.idleRun := 0 } :=
  if_neg other

theorem State.hunt_counts (short : u.link.idleRun < 15) : u.hunt .idle = { u with link.idleRun := u.link.idleRun + 1 } :=
  if_pos (Nat.succ_lt_succ short)

theorem State.hunt_enters (long : 15 ≤ u.link.idleRun) : u.hunt .idle = u.enterInSync :=
  if_neg (Nat.not_lt.2 (Nat.succ_le_succ long))

theorem State.enterInSync_up (up : u.link.link = .up) :
    u.enterInSync = { u with link := { u.link with
      rx := .inSync, idleRun := 16, errorRun := 0, validRun := 0, assembly := .outside, linkTimer := none } } := by
  simp only [State.enterInSync, up]
  rfl

theorem State.enterInSync_down (down : u.link.link = .down) :
    u.enterInSync = ({ u with link := { u.link with
      rx := .inSync, idleRun := 16, errorRun := 0, validRun := 0, link := .up, assembly := .outside
      linkTimer := none } } : State).report (.linkChange .up) := by
  simp only [State.enterInSync, down]
  rfl

end Hunting

/-- Settles O8: out of IN-SYNC a symbol is hunted, from HUNTING or as the first one after NO-SIGNAL. -/
theorem sixteenIdlesGiveSync : Obligations.SixteenIdlesGiveSync := by
  unfold Obligations.SixteenIdlesGiveSync
  intro s sym high stays out m run synced
  have mirrored (x : Symbol) : s.mirror x = m x := s.mirror_eq x
  have link (x : Symbol) : (m x).link = s.link := by
    rw [← mirrored]
    exact (s.mirror_frame x).2.1
  have takes (x : Symbol) : s.receive x
      = ({ m x with link := { s.link with rx := .hunting, silence := 0, idleRun := run } } : State).hunt x := by
    rw [State.receive_high high stays, mirrored]
    refine (State.receiverTakes_searching (s := (m x).heard) (by rw [State.heard, link]; exact out) x).trans ?_
    rw [State.heard, link]
    rfl
  refine ⟨fun other => ?_, fun short => ?_, fun long up => ?_, fun long down => ?_⟩
  · rw [exec_symbol, takes, State.hunt_other other]
  all_goals refine congrArg Host.Outcome.next ((takes .idle).trans ?_)
  · exact State.hunt_counts short
  · exact (State.hunt_enters long).trans (State.enterInSync_up up)
  · exact (State.hunt_enters long).trans (State.enterInSync_down down)

/-! ## BYPASS (R16, R17) -/

/-- In BYPASS no frame is assembled: a symbol in IN-SYNC moves the runs and the bracket only. -/
theorem State.inSyncSymbol_bypass (bypass : s.inBypass = true) (sym : Symbol) :
    s.inSyncSymbol sym = if sym = .invalid then s.countInvalid else s.countValid.trackBracket sym := by
  have kept : (s.countValid.trackBracket sym).inBypass = true := by
    simpa [State.inBypass] using bypass
  simp [State.inSyncSymbol, State.assembleUnlessBypass, bypass, kept]

theorem State.receiverTakes_bypass (bypass : s.inBypass = true) (sym : Symbol) (outside : s.link.assembly = .outside) :
    let t := s.receiverTakes sym
    t.downstream = s.downstream ∧ t.link.assembly = .outside ∧ t.pool = s.pool ∧ t.rx = s.rx ∧ t.tx = s.tx
      ∧ t.table = s.table ∧ t.time = s.time ∧ t.steps = s.steps ∧ t.out = s.out ∧ t.run = s.run ∧ t.cmd = s.cmd := by
  intro t
  by_cases sync : s.link.rx = .inSync
  · have taken : t = if sym = .invalid then s.countInvalid else s.countValid.trackBracket sym := by
      simp only [t, State.receiverTakes, sync, State.inSyncSymbol_bypass bypass]
    rw [taken]
    split
    · refine ⟨by simp, ?_, by simp⟩
      unfold State.countInvalid
      split
      · exact outside
      · rfl
    · refine ⟨by simp, ?_, by simp⟩
      unfold State.trackBracket
      split <;> exact outside
  · rw [show t = _ from State.receiverTakes_searching sync sym]
    refine ⟨by simp, ?_, by simp⟩
    rcases State.hunt_cases { s with link := { s.link with rx := .hunting, idleRun := s.link.huntingRun } } sym with
      ⟨_, _, h⟩ | ⟨_, _, h⟩ | ⟨_, h⟩
    · rw [h]; exact outside
    · rw [h]
      unfold State.enterInSync
      dsimp only
      split <;> rfl
    · rw [h]; exact outside

theorem State.countInvalid_few (few : s.link.errorRun < 3) :
    s.countInvalid = { s with link := { s.link with errorRun := s.link.errorRun + 1, validRun := 0 } } :=
  if_pos (Nat.succ_lt_succ few)

theorem LinkReceiver.timerAfterLoss_eq (l : LinkReceiver) :
    l.timerAfterLoss = if l.link = .up then some l.linkTimeout else l.linkTimer := by
  cases link : l.link <;> simp [LinkReceiver.timerAfterLoss, link]

theorem State.countInvalid_many (many : 3 ≤ s.link.errorRun) :
    s.countInvalid = { s with link := { s.link with
      rx := .hunting, idleRun := 0, validRun := 0, assembly := .outside, bracketOpen := false
      linkTimer := if s.link.link = .up then some s.link.linkTimeout else s.link.linkTimer } } := by
  rw [← LinkReceiver.timerAfterLoss_eq]
  exact if_neg (Nat.not_lt.2 (Nat.succ_le_succ many))

/-- The frame bracket after a symbol (R16). -/
def Symbol.bracket (sym : Symbol) (before : Bool) : Bool :=
  match sym with
  | .openSymbol => true
  | .closeSymbol | .abort => false
  | .data _ | .idle | .invalid => before

theorem State.trackBracket_eq (s : State) (sym : Symbol) :
    s.trackBracket sym = { s with link.bracketOpen := sym.bracket s.link.bracketOpen } := by
  cases sym <;> rfl

/-- A node that leaves BYPASS at a symbol is the node that has left it. -/
theorem State.receive_leaveBypass (high : s.resetn = true) (sym : Symbol) : s.leaveBypass.receive sym = s.receive sym := by
  have high' : s.leaveBypass.resetn = true := by simpa using high
  rw [State.receive, if_pos high', State.receive, if_pos high,
    State.leaveBypass_of_not_may _ s.leaveBypass_mayLeaveBypass]

theorem State.sendIdle_leaveBypass (s : State) : s.leaveBypass.sendIdle = s.sendIdle := by
  rw [State.sendIdle, State.sendIdle, State.leaveBypass_of_not_may _ s.leaveBypass_mayLeaveBypass]

theorem State.sendIdle_bypass (stays : s.mayLeaveBypass = false) (bypass : s.tx.state = .bypass) : s.sendIdle = s := by
  simp only [State.sendIdle, s.leaveBypass_of_not_may stays, bypass]

/-- Settles O9: the symbol goes out as received and the receiver keeps its runs; leaving BYPASS comes first. -/
theorem bypassMirrorsSymbols : Obligations.BypassMirrorsSymbols := by
  unfold Obligations.BypassMirrorsSymbols
  intro s sym bypass m may left bracket
  have inBypass : m.inBypass = true := m.inBypass_iff.2 bypass
  have mirrored : s.mirror sym = m := State.mirror_bypass bypass sym
  have low (l : s.resetn = false) : s.receive sym = m := (State.receive_low l sym).trans mirrored
  have stays (n : ¬may) : s.mayLeaveBypass = false :=
    Bool.eq_false_iff.2 fun leaves =>
      have ⟨high, _, done, outside⟩ := s.mayLeaveBypass_iff.1 leaves
      n ⟨high, done, outside⟩
  have takes (high : s.resetn = true) (n : ¬may) : s.receive sym = m.heard.receiverTakes sym := by
    rw [State.receive_high high (stays n), mirrored]
  have inSync (high : s.resetn = true) (n : ¬may) (sync : s.link.rx = .inSync) :
      s.receive sym = if sym = .invalid then m.heard.countInvalid else m.heard.countValid.trackBracket sym := by
    have sync' : m.heard.link.rx = .inSync := sync
    rw [takes high n, State.receiverTakes, sync']
    exact State.inSyncSymbol_bypass (s := m.heard) inBypass sym
  rw [exec_symbol]
  refine ⟨fun n outside => ⟨_, rfl, ?_⟩, fun l => congrArg _ (low l), fun high n sync valid => congrArg _ ?_,
    fun high n sync invalid few => congrArg _ ?_, fun high n sync invalid many => congrArg _ ?_, fun leaves => ?_,
    fun n => congrArg _ (State.sendIdle_bypass (stays n) bypass)⟩
  · cases level : s.resetn with
    | false =>
      rw [low level]
      exact ⟨rfl, outside, rfl, rfl, rfl, rfl, rfl, rfl, rfl, rfl, rfl⟩
    | true =>
      rw [takes level n]
      exact State.receiverTakes_bypass (s := m.heard) inBypass sym outside
  · rw [inSync high n sync, if_neg valid, State.heard_countValid, State.trackBracket_eq]
    rfl
  · rw [inSync high n sync, if_pos invalid]
    exact State.countInvalid_few (s := m.heard) few
  · rw [inSync high n sync, if_pos invalid]
    exact State.countInvalid_many (s := m.heard) many
  · obtain ⟨high, done, outside⟩ := leaves
    have leaves : s.leaveBypass = left := if_pos (s.mayLeaveBypass_iff.2 ⟨high, bypass, done, outside⟩)
    have receives (x : Symbol) : s.receive x = left.receive x := by rw [← leaves, State.receive_leaveBypass high]
    refine ⟨?_, ?_, fun f => ?_⟩
    · rw [exec_symbol, receives]
    · exact congrArg Host.Outcome.next (by rw [← leaves, State.sendIdle_leaveBypass])
    · rw [State.receiveFrame, State.receiveFrame, receives .openSymbol]

end Sys2Proof.Machine
end

section
/-! The statements about frame assembly, loss of synchronisation and the link timer (R2, R4, R5, R6, R10 to R15, R101,
R134). -/

namespace Sys2Proof.Machine

variable {s u : State}

/-! ## Symbols at frame assembly (R10 to R15) -/

theorem Assembly.receiving_eq_one_iff (a : Assembly) : a.receiving = 1 ↔ ∃ octets, a = .assembling octets := by
  cases a <;> simp [Assembly.receiving]

section Idle

/-! No frame is being assembled. -/

variable (idle : u.link.assembly.receiving = 0)

include idle

theorem State.assembly_of_idle : u.link.assembly = .outside ∨ u.link.assembly = .skipping := by
  cases assembly : u.link.assembly with
  | outside => exact .inl rfl
  | skipping => exact .inr rfl
  | assembling octets => simp [assembly, Assembly.receiving] at idle

theorem State.assemble_open_claims : u.assemble .openSymbol = u.claim := by
  rcases State.assembly_of_idle idle with assembly | assembly <;> simp only [State.assemble, assembly]

theorem State.assemble_data_idle (o : Octet) : u.assemble (.data o) = u := by
  rcases State.assembly_of_idle idle with assembly | assembly <;> simp only [State.assemble, assembly]

theorem State.assemble_invalid_idle : u.assemble .invalid = u := by
  rcases State.assembly_of_idle idle with assembly | assembly <;> simp only [State.assemble, assembly]

/-- ABORT and CLOSE end a skip. -/
theorem State.assemble_ends_idle {sym : Symbol} (ends : sym = .abort ∨ sym = .closeSymbol) :
    u.assemble sym = { u with link.assembly := .outside } := by
  rcases State.assembly_of_idle idle with assembly | assembly <;> rcases ends with rfl | rfl <;>
    simp only [State.assemble, assembly]
  all_goals rw [← assembly]

end Idle

section Assembling

/-! A frame is being assembled. -/

variable {octets : List Octet} (assembly : u.link.assembly = .assembling octets)

include assembly

theorem State.assemble_open_frames :
    u.assemble .openSymbol = ({ u with link.assembly := .assembling [] } : State).frameError .framing := by
  simp only [State.assemble, assembly]

theorem State.assemble_data_stores (o : Octet) (room : octets.length < 105) :
    u.assemble (.data o) = { u with link.assembly := .assembling (octets ++ [o]) } := by
  simp only [State.assemble, assembly]
  exact if_pos room

theorem State.assemble_data_oversize (o : Octet) (full : 105 ≤ octets.length) :
    u.assemble (.data o) = u.dropAssembly .oversize .skipping := by
  simp only [State.assemble, assembly]
  exact if_neg (Nat.not_lt.2 full)

theorem State.assemble_abort : u.assemble .abort = u.dropAssembly .abort .outside := by
  simp only [State.assemble, assembly]

theorem State.assemble_close : u.assemble .closeSymbol = u.endFrame octets := by
  simp only [State.assemble, assembly]

theorem State.assemble_invalid : u.assemble .invalid = u.dropAssembly .code .skipping := by
  simp only [State.assemble, assembly]

end Assembling

/-- The node at a valid symbol of the frame path, before assembly takes it. -/
def State.counted (s : State) (bracketOpen : Bool) : State :=
  { s with link := s.link.afterValid 1 s.link.assembly bracketOpen }

theorem State.receive_counted (h : s.Assembles) (sym : Symbol) (valid : sym ≠ .invalid) :
    s.receive sym = (s.counted (sym.bracket s.link.bracketOpen)).assemble sym := by
  rw [s.receive_valid sym h valid, State.trackBracket_eq]
  rfl

/-- Settles O10: the assembly decides what OPEN and an octet do, after the symbol has been counted. -/
theorem openClaimsAndOctetsAreStored : Obligations.OpenClaimsAndOctetsAreStored := by
  unfold Obligations.OpenClaimsAndOctetsAreStored
  refine ⟨fun s h => ?_, fun s o octets h => ?_⟩
  · have opens : exec .openSymbol s = .next ((s.counted true).assemble .openSymbol) :=
      congrArg _ (State.receive_counted h .openSymbol (by decide))
    refine ⟨fun idle free => ?_, fun idle none => ?_, fun inside => ?_, ?_⟩
    · rw [opens, State.assemble_open_claims (u := s.counted true) idle]
      exact congrArg Host.Outcome.next (if_pos free)
    · rw [opens, State.assemble_open_claims (u := s.counted true) idle]
      exact congrArg Host.Outcome.next (if_neg (Nat.not_lt.2 none.le))
    · obtain ⟨octets, assembly⟩ := s.link.assembly.receiving_eq_one_iff.1 inside
      rw [opens, State.assemble_open_frames (u := s.counted true) assembly]
      rfl
    · exact congrArg _ (State.receive_counted h .idle (by decide))
  · have stores : exec (.dataOctet o) s = .next ((s.counted s.link.bracketOpen).assemble (.data o)) :=
      congrArg _ (State.receive_counted h (.data o) (by simp))
    refine ⟨fun assembly room => ?_, fun assembly full => ?_, fun idle => ?_⟩
    · rw [stores, State.assemble_data_stores (u := s.counted s.link.bracketOpen) assembly o room]
      rfl
    · rw [stores, State.assemble_data_oversize (u := s.counted s.link.bracketOpen) assembly o full]
      rfl
    · rw [stores, State.assemble_data_idle (u := s.counted s.link.bracketOpen) idle o]
      rfl

/-! ## The end of a frame (R12 to R14) -/

theorem lengthGood_eq_false {octets : List Octet}
    (bad : ¬(9 ≤ octets.length ∧ ∃ len ∈ octets[6]?, len.toNat ≤ 96 ∧ octets.length = len.toNat + 9)) :
    lengthGood octets = false := by
  refine Bool.eq_false_iff.2 fun good => bad ?_
  obtain ⟨len, at6, least, limit, same⟩ := (lengthGood_iff octets).1 good
  exact ⟨least, len, at6, limit, same⟩

theorem State.endFrame_badLength (u : State) {octets : List Octet} (bad : lengthGood octets = false) :
    u.endFrame octets = u.dropAssembly .length .outside := by
  simp [State.endFrame, bad]

theorem State.endFrame_badCheck (u : State) {octets : List Octet} (good : lengthGood octets = true) (bad : crc octets ≠ 0) :
    u.endFrame octets = u.dropAssembly .check .outside := by
  have fails : checkGood octets = false := beq_eq_false_iff_ne.2 bad
  simp [State.endFrame, good, fails]

/-- Settles O11: ABORT and CLOSE end what is being assembled, and the checks decide at CLOSE. -/
theorem abortAndCloseEndAFrame : Obligations.AbortAndCloseEndAFrame := by
  unfold Obligations.AbortAndCloseEndAFrame
  have aborts {s : State} (h : s.Assembles) : exec .abort s = .next ((s.counted false).assemble .abort) :=
    congrArg _ (State.receive_counted h .abort (by decide))
  have closes {s : State} (h : s.Assembles) : exec .closeSymbol s = .next ((s.counted false).assemble .closeSymbol) :=
    congrArg _ (State.receive_counted h .closeSymbol (by decide))
  refine ⟨?_, fun s f h fits assembly => ?_⟩
  · intro s octets h dropped
    have drops (reason : FrameFault) : (s.counted false).dropAssembly reason .outside = dropped reason := rfl
    have ends (assembly : s.link.assembly = .assembling octets) :
        exec .closeSymbol s = .next ((s.counted false).endFrame octets) :=
      (closes h).trans (congrArg _ (State.assemble_close (u := s.counted false) assembly))
    refine ⟨fun assembly => ?_, fun assembly bad => ?_, fun assembly good bad => ?_, fun idle => ?_, fun idle => ?_⟩
    · rw [aborts h, State.assemble_abort (u := s.counted false) assembly, drops]
    · rw [ends assembly, State.endFrame_badLength _ (lengthGood_eq_false bad), drops]
    · rw [ends assembly, State.endFrame_badCheck _ good bad, drops]
    · rw [aborts h, State.assemble_ends_idle (u := s.counted false) idle (.inl rfl)]
      rfl
    · rw [closes h, State.assemble_ends_idle (u := s.counted false) idle (.inr rfl)]
      rfl
  · rw [closes h, State.assemble_close (u := s.counted false) assembly, State.endFrame_onLink _ f fits]
    rfl

/-! ## Loss of synchronisation (R2, R4, R5, R15) -/

theorem State.receive_invalid (h : s.Assembles) : s.receive .invalid = (s.heard.assemble .invalid).countInvalid := by
  have ⟨_, _, outOfBypass⟩ := h
  have outOfBypass' : ¬s.heard.inBypass = true := Bool.eq_false_iff.1 outOfBypass
  rw [s.receive_of_assembles .invalid h, State.inSyncSymbol, if_pos rfl, State.assembleUnlessBypass, if_neg outOfBypass']

theorem State.loseActivity_hunting (due : s.silenceDue = true) (hunting : s.link.rx = .hunting) :
    s.loseActivity = { s with link := { s.link with
      rx := .noSignal, idleRun := 0, errorRun := 0, validRun := 0, assembly := .outside, bracketOpen := false } } := by
  simp only [State.loseActivity, due, hunting, if_true]

theorem State.loseActivity_inSync_idle (due : s.silenceDue = true) (sync : s.link.rx = .inSync)
    (idle : s.link.assembly.receiving = 0) :
    s.loseActivity = { s with link := { s.link with
      rx := .noSignal, idleRun := 0, errorRun := 0, validRun := 0, assembly := .outside, bracketOpen := false
      linkTimer := s.link.timerAfterLoss } } := by
  rcases State.assembly_of_idle idle with assembly | assembly <;>
    simp only [State.loseActivity, due, sync, assembly, if_true]

theorem State.loseActivity_inSync_assembling (due : s.silenceDue = true) (sync : s.link.rx = .inSync)
    (inside : s.link.assembly.receiving = 1) :
    s.loseActivity = { s.dropAssembly .link .outside with link := { s.link with
      rx := .noSignal, idleRun := 0, errorRun := 0, validRun := 0, assembly := .outside, bracketOpen := false
      linkTimer := s.link.timerAfterLoss } } := by
  obtain ⟨octets, assembly⟩ := s.link.assembly.receiving_eq_one_iff.1 inside
  simp only [State.loseActivity, due, sync, assembly, if_true]
  rfl

/-- Settles O12: an invalid symbol damages the frame and is then counted; a loss of activity needs two silent ticks. -/
theorem syncIsLostByDamageOrSilence : Obligations.SyncIsLostByDamageOrSilence := by
  unfold Obligations.SyncIsLostByDamageOrSilence
  constructor
  · intro s h next left
    have takes : exec .invalidSymbol s = .next (s.heard.assemble .invalid).countInvalid :=
      congrArg _ (State.receive_invalid h)
    refine ⟨fun idle => ?_, fun inside => ?_⟩
    · have skips : next = s.link.assembly := by
        unfold next
        rcases State.assembly_of_idle idle with assembly | assembly <;> rw [assembly]
      rw [takes, State.assemble_invalid_idle (u := s.heard) idle]
      unfold left
      rw [skips]
      split
      next few => exact congrArg _ (State.countInvalid_few (s := s.heard) few)
      next many => exact congrArg _ (State.countInvalid_many (s := s.heard) (Nat.not_lt.1 many))
    · obtain ⟨octets, assembly⟩ := s.link.assembly.receiving_eq_one_iff.1 inside
      have skips : next = .skipping := by
        unfold next
        rw [assembly]
      rw [takes, State.assemble_invalid (u := s.heard) assembly]
      unfold left
      rw [skips]
      split
      next few => exact congrArg _ (State.countInvalid_few (s := s.heard.dropAssembly .code .skipping) few)
      next many =>
        exact congrArg _ (State.countInvalid_many (s := s.heard.dropAssembly .code .skipping) (Nat.not_lt.1 many))
  · intro s silent started
    have due (high : s.resetn = true) (silence : 2 ≤ s.link.silence) (heard : s.link.rx ≠ .noSignal) :
        s.silenceDue = true := s.silenceDue_iff.2 ⟨high, heard, silence⟩
    have timer : s.link.timerAfterLoss = started := s.link.timerAfterLoss_eq
    refine ⟨fun absent => congrArg _ (s.loseActivity_of_not_due (Bool.eq_false_iff.2 fun due => ?_)),
      fun high silence hunting => congrArg Host.Outcome.next ?_, fun high silence sync idle => congrArg Host.Outcome.next ?_,
      fun high silence sync inside => congrArg Host.Outcome.next ?_⟩
    · obtain ⟨high, heard, silence⟩ := s.silenceDue_iff.1 due
      rcases absent with low | lost | short
      · exact absurd high (Bool.eq_false_iff.1 low)
      · exact heard lost
      · omega
    · exact State.loseActivity_hunting (due high silence (by rw [hunting]; decide)) hunting
    · rw [State.loseActivity_inSync_idle (due high silence (by rw [sync]; decide)) sync idle, timer]
    · rw [State.loseActivity_inSync_assembling (due high silence (by rw [sync]; decide)) sync inside, timer]
      rfl

/-! ## The link timer (R5, R6, R101, R134) -/

theorem State.loseTrust_armed (armed : s.run = .armed) (c : RunCause) : s.loseTrust c = s.enterFailsafe c := if_pos armed

theorem State.loseTrust_notArmed (notArmed : s.run ≠ .armed) (c : RunCause) : s.loseTrust c = s := if_neg notArmed

theorem State.flushAll_empty (empty : s.steps.held.length = 0) (c : FlushCause) :
    s.flushAll c = { s with
      steps.held := []
      steps.counters.flushed := s.steps.counters.flushed + BitVec.ofNat 32 s.steps.held.length } := if_pos empty

theorem State.flushAll_some (some : s.steps.held.length ≠ 0) (c : FlushCause) :
    s.flushAll c = ({ s with
      steps.held := []
      steps.counters.flushed := s.steps.counters.flushed + BitVec.ofNat 32 s.steps.held.length } : State).report
        (.flushed c s.steps.held.length) := if_neg some

/-- Settles O13: the link goes DOWN, and Run Control acts in ARMED. -/
theorem linkTimerExpiryTakesTheLinkDown : Obligations.LinkTimerExpiryTakesTheLinkDown := by
  unfold Obligations.LinkTimerExpiryTakesTheLinkDown
  intro s expired down n stopped
  have expires : exec .linkTimerExpiry s = .next (down.loseTrust .link) := congrArg Host.Outcome.next (if_pos expired)
  let off : State := ({ down with run := .failsafe } : State).safeTransitions
  have failsafe (armed : s.run = .armed) :
      down.loseTrust .link = (off.flushAll .failsafe).report (.runChange .link .armed .failsafe n) :=
    State.loseTrust_armed (s := down) armed .link
  have quiet (empty : n = 0) : off.flushAll .failsafe = stopped := State.flushAll_empty (s := off) empty .failsafe
  have flushes (held : n ≠ 0) : off.flushAll .failsafe = stopped.report (.flushed .failsafe n) :=
    State.flushAll_some (s := off) held .failsafe
  refine ⟨fun notArmed => ?_, fun armed empty => ?_, fun armed held => ?_⟩
  · rw [expires, State.loseTrust_notArmed (s := down) notArmed]
  · rw [expires, failsafe armed, quiet empty, empty]
  · rw [expires, failsafe armed, flushes held]

end Sys2Proof.Machine
end

section
/-! The statements about time marks and the timers of the Timebase (R66 to R79). -/

namespace Sys2Proof.Machine

variable {s : State} {x : Word32} {e : Octet}

/-! ## The rows of Table 5.2 -/

/-- The offset of a mark: the signed distance from network time to the time it calls for (R67). -/
def State.offsetOf (s : State) (x : Word32) : Int := (x - s.time.networkTime).toInt

section Acquiring

variable (acquiring : s.time.sync = .acquiring)

include acquiring

theorem State.judgeMark_counts (held : s.time.epoch = some e) (near : (s.offsetOf x).natAbs ≤ s.time.lockWindow)
    (few : s.time.goodMarks < 2) : s.judgeMark x e = { s with time.goodMarks := s.time.goodMarks + 1 } := by
  simp only [State.judgeMark, acquiring]
  exact (if_pos ⟨held, near⟩).trans (if_pos (Nat.succ_lt_succ few))

theorem State.judgeMark_locks (held : s.time.epoch = some e) (near : (s.offsetOf x).natAbs ≤ s.time.lockWindow)
    (enough : 2 ≤ s.time.goodMarks) : s.judgeMark x e = s.lockOn (s.offsetOf x) := by
  simp only [State.judgeMark, acquiring]
  exact (if_pos ⟨held, near⟩).trans (if_neg (Nat.not_lt.2 (Nat.succ_le_succ enough)))

theorem State.judgeMark_acquiresAgain (apart : s.time.epoch ≠ some e ∨ s.time.lockWindow < (s.offsetOf x).natAbs) :
    s.judgeMark x e = s.stepTime x e .acquiring 1 := by
  simp only [State.judgeMark, acquiring]
  exact if_neg fun ⟨held, near⟩ => apart.elim (· held) (fun far => Nat.not_lt.2 near far)

end Acquiring

section Locked

variable (locked : s.time.sync = .locked)

include locked

theorem State.judgeMark_newEpoch (other : s.time.epoch ≠ some e) : s.judgeMark x e = s.stepTime x e .locked 3 := by
  simp only [State.judgeMark, locked]
  exact if_pos other

theorem State.judgeMark_slews (held : s.time.epoch = some e) (near : (s.offsetOf x).natAbs ≤ s.time.slewLimit) :
    s.judgeMark x e = s.lockOn (s.offsetOf x) := by
  simp only [State.judgeMark, locked]
  exact (if_neg (not_not.2 held)).trans (if_pos near)

theorem State.judgeMark_firstOutlier (held : s.time.epoch = some e) (far : s.time.slewLimit < (s.offsetOf x).natAbs)
    (first : s.time.outliers = 0) : s.judgeMark x e = { s with time.outliers := 1 } := by
  simp only [State.judgeMark, locked]
  exact (if_neg (not_not.2 held)).trans ((if_neg (Nat.not_le.2 far)).trans (if_pos first))

theorem State.judgeMark_nextOutlier (held : s.time.epoch = some e) (far : s.time.slewLimit < (s.offsetOf x).natAbs)
    (next : s.time.outliers ≠ 0) : s.judgeMark x e = s.stepTime x e .acquiring 1 := by
  simp only [State.judgeMark, locked]
  exact (if_neg (not_not.2 held)).trans ((if_neg (Nat.not_le.2 far)).trans (if_neg next))

end Locked

section Holdover

variable (holdover : s.time.sync = .holdover)

include holdover

theorem State.judgeMark_relocks (held : s.time.epoch = some e) (near : (s.offsetOf x).natAbs ≤ s.time.slewLimit) :
    s.judgeMark x e = s.lockOn (s.offsetOf x) := by
  simp only [State.judgeMark, holdover]
  exact if_pos ⟨held, near⟩

theorem State.judgeMark_leavesHoldover (apart : s.time.epoch ≠ some e ∨ s.time.slewLimit < (s.offsetOf x).natAbs) :
    s.judgeMark x e = s.stepTime x e .acquiring 1 := by
  simp only [State.judgeMark, holdover]
  exact if_neg fun ⟨held, near⟩ => apart.elim (· held) (fun far => Nat.not_lt.2 near far)

end Holdover

theorem State.judgeMark_first (unsynced : s.time.sync = .unsynced) : s.judgeMark x e = s.stepTime x e .acquiring 1 := by
  simp only [State.judgeMark, unsynced]

/-! ## Locking and stepping (R68 to R74) -/

theorem State.lockOn_again (offset : Int) (locked : s.time.sync = .locked) :
    s.lockOn offset = { s with time := s.time.lockedOn offset } := if_pos locked

theorem State.lockOn_enters (offset : Int) (other : s.time.sync ≠ .locked) :
    s.lockOn offset
      = ({ s with time := s.time.lockedOn offset } : State).report (.syncChange s.time.sync .locked) := if_neg other

/-- The node at a step of network time, before its records. -/
def State.stepped (s : State) (x : Word32) (e : Octet) (entered : SyncState) (good : Nat) : State :=
  { s with time := s.time.stepped x e entered good }

/-- The record of a step of network time (R74). -/
def State.noteStep (s u : State) (x : Word32) (e : Octet) : State :=
  u.report (.timeStepped (x - s.time.networkTime) (s.time.epoch != some e))

theorem State.stepTime_first (good : Nat) (unsynced : s.time.sync = .unsynced) :
    s.stepTime x e .acquiring good
      = ((s.stepped x e .acquiring good).report (.syncChange .unsynced .acquiring)).queueTimeStep (s.offsetOf x) := by
  simp only [State.stepTime, unsynced]
  rfl

theorem State.stepTime_stays (entered : SyncState) (good : Nat) (synced : s.time.sync ≠ .unsynced)
    (same : s.time.sync = entered) :
    s.stepTime x e entered good = (s.noteStep (s.stepped x e entered good) x e).queueTimeStep (s.offsetOf x) := by
  simp only [State.stepTime, if_neg synced, if_pos same]
  rfl

theorem State.stepTime_enters (entered : SyncState) (good : Nat) (synced : s.time.sync ≠ .unsynced)
    (other : s.time.sync ≠ entered) :
    s.stepTime x e entered good
      = ((s.noteStep (s.stepped x e entered good) x e).report (.syncChange s.time.sync entered)).queueTimeStep
          (s.offsetOf x) := by
  simp only [State.stepTime, if_neg synced, if_neg other]
  rfl

/-- Taking a mark arms the mark timer of the state that judging it leaves. -/
theorem State.takeMark_judged {m : Word32} {hops : Octet} {u : State}
    (judged : s.judgeMark (s.time.expected m hops) e = u) :
    s.takeMark m e hops = { u with time.markTimer := some u.time.markTimeout } := by
  rw [s.takeMark_eq, judged]

theorem State.takeMark_stepped {m : Word32} {hops : Octet} {entered : SyncState} {good : Nat} {u : State}
    (judged : s.judgeMark (s.time.expected m hops) e = s.stepTime (s.time.expected m hops) e entered good)
    (stepped : s.stepTime (s.time.expected m hops) e entered good = u) :
    s.takeMark m e hops = { u with time.markTimer := some s.time.markTimeout } := by
  have timeout : u.time.markTimeout = s.time.markTimeout := by
    rw [← stepped, State.stepTime_time]
    rfl
  rw [State.takeMark_judged (judged.trans stepped), timeout]

/-- Settles O19: each agreeing mark by its row of Table 5.2. -/
theorem agreeingMarksSlewTime : Obligations.AgreeingMarksSlewTime := by
  unfold Obligations.AgreeingMarksSlewTime
  intro s m e hops held expected offset armed locked
  refine ⟨fun acquiring near few => State.takeMark_judged (State.judgeMark_counts acquiring held near few),
    fun acquiring near enough => ?_, fun sync near => ?_,
    fun sync far first => State.takeMark_judged (State.judgeMark_firstOutlier sync held far first),
    fun holdover near => ?_⟩
  · refine (State.takeMark_judged ((State.judgeMark_locks acquiring held near enough).trans
      (State.lockOn_enters _ (by rw [acquiring]; decide)))).trans ?_
    rw [acquiring]
    rfl
  · exact State.takeMark_judged ((State.judgeMark_slews sync held near).trans (State.lockOn_again _ sync))
  · refine (State.takeMark_judged ((State.judgeMark_relocks holdover held near).trans
      (State.lockOn_enters _ (by rw [holdover]; decide)))).trans ?_
    rw [holdover]
    rfl

/-- Settles O20: each disagreeing mark by its row of Table 5.2, its records, and the Step Queue last. -/
theorem disagreeingMarksStepTime : Obligations.DisagreeingMarksStepTime := by
  unfold Obligations.DisagreeingMarksStepTime
  intro s m e hops t expected amount far stepped finish noted taken
  refine ⟨fun unsynced => ?_, fun acquiring apart => ?_, fun locked other => ?_, fun locked held far next => ?_,
    fun holdover apart => ?_⟩
  · exact State.takeMark_stepped (State.judgeMark_first unsynced) (State.stepTime_first 1 unsynced)
  · have synced : s.time.sync ≠ .unsynced := by rw [acquiring]; decide
    exact State.takeMark_stepped (State.judgeMark_acquiresAgain acquiring apart)
      (State.stepTime_stays .acquiring 1 synced acquiring)
  · have synced : s.time.sync ≠ .unsynced := by rw [locked]; decide
    exact State.takeMark_stepped (State.judgeMark_newEpoch locked other) (State.stepTime_stays .locked 3 synced locked)
  · have synced : s.time.sync ≠ .unsynced := by rw [locked]; decide
    have leaves : s.time.sync ≠ .acquiring := by rw [locked]; decide
    refine (State.takeMark_stepped (State.judgeMark_nextOutlier locked held far next)
      (State.stepTime_enters .acquiring 1 synced leaves)).trans ?_
    rw [locked]
    rfl
  · have synced : s.time.sync ≠ .unsynced := by rw [holdover]; decide
    have leaves : s.time.sync ≠ .acquiring := by rw [holdover]; decide
    refine (State.takeMark_stepped (State.judgeMark_leavesHoldover holdover apart)
      (State.stepTime_enters .acquiring 1 synced leaves)).trans ?_
    rw [holdover]
    rfl

/-! ## The timers (R75, R76, R78, R134) -/

theorem State.expireMarkTimer_acquiring (expired : s.time.markTimer = some 0) (acquiring : s.time.sync = .acquiring) :
    s.expireMarkTimer = s.enterUnsynced := by
  simp only [State.expireMarkTimer, expired, acquiring, if_true]

theorem State.expireMarkTimer_locked (expired : s.time.markTimer = some 0) (locked : s.time.sync = .locked) :
    s.expireMarkTimer = s.enterHoldover := by
  simp only [State.expireMarkTimer, expired, locked, if_true]

theorem State.expireHoldoverTimer_holdover (expired : s.time.holdoverTimer = some 0)
    (holdover : s.time.sync = .holdover) : s.expireHoldoverTimer = s.enterUnsynced := by
  simp only [State.expireHoldoverTimer, expired, holdover, if_true]

/-- Flushing an empty queue changes nothing. -/
theorem State.flushAll_nothing (nothing : s.steps.held = []) (c : FlushCause) : s.flushAll c = s := by
  have kept : { s.steps with
      held := [], counters.flushed := s.steps.counters.flushed + BitVec.ofNat 32 s.steps.held.length } = s.steps := by
    rw [nothing, List.length_nil, BitVec.add_zero, ← nothing]
  rw [State.flushAll_empty (by rw [nothing]; rfl)]
  exact congrArg (fun q : StepQueue => { s with steps := q }) kept

theorem State.enterFailsafe_emptied (nothing : s.steps.held = []) (c : RunCause) :
    s.enterFailsafe c
      = ({ s with run := .failsafe, out := s.out.safeAll } : State).report (.runChange c .armed .failsafe 0) := by
  have kept := State.flushAll_nothing (s := ({ s with run := .failsafe } : State).safeTransitions) nothing .failsafe
  simp only [State.enterFailsafe, kept, nothing]
  rfl

/-- Settles O21: the timers by the sync state, and the entry to UNSYNCED in its order. -/
theorem syncTimersEndSync : Obligations.SyncTimersEndSync := by
  unfold Obligations.SyncTimersEndSync
  intro s n lost emptied flushed unsynced
  have flushes : lost.flushAll .sync = flushed := rfl
  have nothing : flushed.steps.held = [] := by
    rw [← flushes]
    simp
  have run : flushed.run = s.run := by
    rw [← flushes]
    simp [lost]
  have out : flushed.out = s.out := by
    rw [← flushes]
    simp [lost]
  have enters : s.enterUnsynced = unsynced := by
    refine Eq.trans (b := flushed.loseTrust .sync) rfl ?_
    unfold unsynced
    split
    next armed =>
      rw [State.loseTrust_armed (run.trans armed), State.enterFailsafe_emptied nothing, out]
      rfl
    next notArmed => exact State.loseTrust_notArmed (by rwa [run]) _
  exact ⟨fun expired acquiring => congrArg _ ((State.expireMarkTimer_acquiring expired acquiring).trans enters),
    fun expired locked => congrArg _ (State.expireMarkTimer_locked expired locked),
    fun expired holdover => congrArg _ ((State.expireHoldoverTimer_holdover expired holdover).trans enters)⟩

end Sys2Proof.Machine
end

section
/-! The statements about accepting and applying steps, safe transitions and the transmitter (R38 to R46, R84 to R94, R123,
R162). -/

namespace Sys2Proof.Machine

variable {s : State} {st : Step}

/-! ## The seven checks (R88 to R90) -/

/-- What becomes of an offered step once the checks have spoken. -/
def State.judgeStep (s : State) (st : Step) : Option Rejection → State
  | some r => s.report (.stepRejected r st.tag)
  | none => s.acceptStep st

theorem State.offerStep_eq (s : State) (st : Step) : s.offerStep st = s.judgeStep st (s.rejection st) := by
  unfold State.offerStep
  cases s.rejection st <;> rfl

/-- One check, whose failing is stated by another name. -/
theorem State.judgeStep_check {fails named : Prop} [Decidable fails] [Decidable named] (same : fails ↔ named)
    (r : Rejection) (later : Option Rejection) :
    s.judgeStep st (if fails then some r else later)
      = if named then s.report (.stepRejected r st.tag) else s.judgeStep st later := by
  by_cases failed : fails
  · rw [if_pos failed, if_pos (same.1 failed)]
    rfl
  · rw [if_neg failed, if_neg (mt same.2 failed)]

theorem Timebase.not_timeValid_iff (t : Timebase) : (!t.timeValid) = true ↔ t.sync ≠ .locked ∧ t.sync ≠ .holdover := by
  rw [t.timeValid_eq_decide, Bool.not_eq_true', decide_eq_false_iff_not, not_or]

/-- Settles O24: the checks in the order of Table 6.2, each by its own measure. -/
theorem offeredStepsAreCheckedInOrder : Obligations.OfferedStepsAreCheckedInOrder := by
  unfold Obligations.OfferedStepsAreCheckedInOrder
  intro s st now ahead after late bankBit noTime noBank tooFar tooLate rejected
  have afterIff : isAfter st.due now = true ↔ after := isAfter_iff st.due now
  have timeIff : (!s.time.timeValid) = true ↔ noTime := s.time.not_timeValid_iff
  have bankIff : (!s.table.entries[st.source].bankMask.getLsbD (bankIndex st.bank)) = true ↔ noBank := by
    rw [Bool.not_eq_true']
    exact Iff.rfl
  have farIff : (isAfter st.due now && decide (s.steps.acceptWindow < distanceAhead st.due now)) = true ↔ tooFar := by
    rw [Bool.and_eq_true, afterIff, decide_eq_true_iff]
    exact Iff.rfl
  have lateIff : (!isAfter st.due now && (st.policy == .drop || decide (s.steps.lateLimit < latenessOf st.due now))) = true
      ↔ tooLate := by
    rw [Bool.and_eq_true, Bool.not_eq_true', ← Bool.not_eq_true, afterIff, Bool.or_eq_true, beq_iff_eq,
      decide_eq_true_iff]
    exact Iff.rfl
  rw [State.offerStep_eq, State.rejection, State.judgeStep_check Iff.rfl, State.judgeStep_check timeIff,
    State.judgeStep_check bankIff, State.judgeStep_check Iff.rfl, State.judgeStep_check farIff,
    State.judgeStep_check lateIff, State.judgeStep_check Iff.rfl]
  rfl

/-! ## Acceptance and the due expiry (R84, R91 to R94) -/

/-- A step takes its place behind the steps due at or before it and before those due after it. -/
theorem insertStep_between {before behind : List Step} (notAfter : ∀ x ∈ before, isAfter x.due st.due = false)
    (after : ∀ x ∈ behind, isAfter x.due st.due = true) :
    insertStep st (before ++ behind) = before ++ [st] ++ behind := by
  induction before with
  | nil =>
    cases behind with
    | nil => rfl
    | cons x xs => simp [insertStep, after x (List.mem_cons_self ..)]
  | cons x xs ih =>
    have later : ∀ y ∈ xs, isAfter y.due st.due = false := fun y held => notAfter y (List.mem_cons_of_mem _ held)
    simpa [insertStep, notAfter x (List.mem_cons_self ..)] using ih later

theorem State.acceptStep_ahead (ahead : isAfter st.due s.time.networkTime = true) :
    s.acceptStep st = { s with
      steps.counters.accepted := s.steps.counters.accepted + 1, steps.held := insertStep st s.steps.held } := if_pos ahead

theorem State.acceptStep_late (late : isAfter st.due s.time.networkTime = false) :
    s.acceptStep st =
      let counted : State := { s with steps.counters.accepted := s.steps.counters.accepted + 1 }
      if s.run = .armed then counted.applyLate st (latenessOf st.due s.time.networkTime) else counted.suppress :=
  if_neg (Bool.eq_false_iff.1 late)

/-- Settles O25: an accepted step waits in its place, or is late and dealt with at once. -/
theorem acceptedStepsTakeTheirPlace : Obligations.AcceptedStepsTakeTheirPlace := by
  unfold Obligations.AcceptedStepsTakeTheirPlace
  intro s st counted late b
  refine ⟨fun ahead before behind held notAfter after => ?_,
    fun arrived armed => (State.acceptStep_late arrived).trans (if_pos armed),
    fun arrived notArmed => (State.acceptStep_late arrived).trans (if_neg notArmed)⟩
  rw [State.acceptStep_ahead ahead, held, insertStep_between notAfter after]

theorem State.takeDue_eq {rest : List Step} (held : s.steps.held = st :: rest)
    (due : isAfter st.due s.time.networkTime = false) :
    s.takeDue =
      let left : State := { s with steps.held := rest }
      if s.run = .armed then
        { left.handOver st with steps.counters.applied := s.steps.counters.applied + 1 }
      else left.suppress := by
  simp only [State.takeDue, held, due, Bool.false_eq_true, if_false]

/-- Settles O26. -/
theorem dueStepsAreAppliedOrSuppressed : Obligations.DueStepsAreAppliedOrSuppressed := by
  unfold Obligations.DueStepsAreAppliedOrSuppressed
  intro s st rest held due b
  exact ⟨fun armed => congrArg Host.Outcome.next ((State.takeDue_eq held due).trans (if_pos armed)),
    fun notArmed => congrArg Host.Outcome.next ((State.takeDue_eq held due).trans (if_neg notArmed))⟩

/-! ## Safe transitions (R123) -/

section SafeTransition

variable (b : Bank)

theorem Bank.quieted_delays : b.quieted.delays b.safeStep ↔ b.deadTime ≠ 0 :=
  (b.quieted.delays_iff_of_idle b.safeStep rfl).trans (and_iff_right rfl)

theorem Bank.safeStep_masked (i : Fin 8) : inSet b.safeStep.mask i = true := inSet_all i

/-- A line that the pattern gives 1, that reads 0 and has a dead time to wait, waits. -/
theorem Bank.safeTransition_waits {i : Fin 8} (one : inSet b.safePattern i = true) (low : inSet b.latch i = false)
    (dead : b.deadTime ≠ 0) :
    b.safeTransition.view i
      = { value := false, mode := .static, inMake := true, waiting := b.safeStep.pendingPulse } :=
  b.quieted.applyStep_view_delayed b.safeStep i (b.safeStep_masked i) one low (b.quieted_delays.2 dead)

/-- What a safe transition makes of one line: 0 where the pattern gives 0, and otherwise 1 or waiting for it. -/
theorem Bank.safeTransition_reads (i : Fin 8) :
    inSet b.safeTransition.latch i = (inSet b.safePattern i && (inSet b.latch i || decide (b.deadTime = 0))) := by
  have masked := b.safeStep_masked i
  cases pattern : inSet b.safePattern i with
  | false =>
    rw [Bool.false_and]
    exact congrArg LineView.value (b.quieted.applyStep_view_break b.safeStep i masked pattern)
  | true =>
    cases read : inSet b.latch i with
    | true => exact congrArg LineView.value (b.quieted.applyStep_view_stays b.safeStep i masked pattern read)
    | false =>
      by_cases dead : b.deadTime = 0
      · rw [decide_eq_true dead]
        exact congrArg LineView.value (b.quieted.applyStep_view_immediate b.safeStep i masked pattern read
          fun delayed => b.quieted_delays.1 delayed dead)
      · rw [decide_eq_false dead]
        exact congrArg LineView.value (b.safeTransition_waits pattern read dead)

theorem Bank.safeTransition_latch :
    b.safeTransition.latch = if b.deadTime = 0 then b.safePattern else b.latch &&& b.safePattern := by
  refine ext_inSet _ _ fun i => ?_
  rw [b.safeTransition_reads]
  split
  next dead => rw [decide_eq_true dead, Bool.or_true, Bool.and_true]
  next dead => rw [decide_eq_false dead, Bool.or_false, inSet_and, Bool.and_comm]

theorem exists_inSet {set : Octet} (some : set ≠ 0) : ∃ i : Fin 8, inSet set i = true := by
  by_contra! none
  exact some (ext_inSet _ _ fun i => by simpa using none i)

/-- The pending transition of a safe transition waits the dead time for at least one line. -/
theorem Bank.safeTransition_pending {t : Transition} (pending : b.safeTransition.transition = some t) :
    t.timer = b.deadTime.toNat ∧ t.makeSet ≠ 0 := by
  have timer := b.quieted.applyStep_timer b.safeStep
  rw [← b.safeTransition_eq, pending] at timer
  change some t.timer = if TransitionMode.breakBeforeMake = .breakBeforeMake ∧ b.deadTime ≠ 0
    ∧ b.safeStep.makes b.latch ≠ 0 then some b.deadTime.toNat else none at timer
  split_ifs at timer with waits
  obtain ⟨_, dead, makes⟩ := waits
  refine ⟨Option.some.inj timer, fun none => ?_⟩
  obtain ⟨i, make⟩ := exists_inSet makes
  rw [BankStep.inSet_makes, Bool.and_eq_true, Bool.and_eq_true, Bool.not_eq_true'] at make
  obtain ⟨⟨_, one⟩, low⟩ := make
  have inMake := congrArg LineView.inMake (b.safeTransition_waits one low dead)
  simp [Bank.view, pending, none] at inMake

end SafeTransition

/-- Settles O29: each line reads the pattern or waits for it. -/
theorem safeTransitionReachesThePattern : Obligations.SafeTransitionReachesThePattern := by
  unfold Obligations.SafeTransitionReachesThePattern
  intro b c
  obtain ⟨pattern, dead⟩ := b.safeTransition_kept
  exact ⟨b.safeTransition_atSafePattern, b.safeTransition_latch, pattern, dead, fun t => b.safeTransition_pending⟩

/-! ## Joining and the arbiter (R34, R37, R39, R40, R42) -/

section Arbiter

variable {r i : Buffer} {rs is : List Buffer}

theorem State.arbitrate_idle (noRepeat : s.pool.repeatQueue = []) (noInsert : s.tx.insertQueue = []) :
    s.arbitrate = { s with tx.state := .idleFill, tx.credit := 0 } := by
  simp only [State.arbitrate, noRepeat, noInsert]

theorem State.arbitrate_repeatOnly (repeats : s.pool.repeatQueue = r :: rs) (noInsert : s.tx.insertQueue = []) :
    s.arbitrate = s.takeRepeat r rs 0 := by
  simp only [State.arbitrate, repeats, noInsert]

theorem State.arbitrate_insertOnly (noRepeat : s.pool.repeatQueue = []) (inserts : s.tx.insertQueue = i :: is) :
    s.arbitrate = s.takeInsert i is := by
  simp only [State.arbitrate, noRepeat, inserts]

theorem State.arbitrate_both (repeats : s.pool.repeatQueue = r :: rs) (inserts : s.tx.insertQueue = i :: is) :
    s.arbitrate = if s.tx.credit < 2 then s.takeRepeat r rs (s.tx.credit + 1) else s.takeInsert i is := by
  simp only [State.arbitrate, repeats, inserts]

end Arbiter

theorem State.afterJoin_sending (sends : s.tx.state.isSending = true) : s.afterJoin = s := by
  rcases s.afterJoin_cases with ⟨idle, _⟩ | ⟨_, same⟩
  · rw [idle] at sends
    exact absurd sends (by decide)
  · exact same

theorem State.afterJoin_idleFill (idle : s.tx.state = .idleFill) : s.afterJoin = s.arbitrate := by
  rcases s.afterJoin_cases with ⟨_, taken⟩ | ⟨busy, _⟩
  · exact taken
  · exact absurd idle busy

/-- Settles O32: a join waits in SENDING, and the arbiter takes it in IDLE-FILL. -/
theorem joiningBuffersWaitOrAreTaken : Obligations.JoiningBuffersWaitOrAreTaken := by
  unfold Obligations.JoiningBuffersWaitOrAreTaken
  intro s b ready
  refine ⟨fun sends => ⟨?_, ?_⟩, fun idle noRepeat noInsert => ⟨?_, ?_⟩⟩
  · exact State.afterJoin_sending (s := { s with pool.repeatQueue := s.pool.repeatQueue ++ [b] }) sends
  · exact State.afterJoin_sending (s := { s with tx.insertQueue := s.tx.insertQueue ++ [b] }) sends
  · have joined : s.pool.repeatQueue ++ [b] = [b] := by rw [noRepeat, List.nil_append]
    have kept : { s.pool with repeatQueue := [] } = s.pool := by rw [← noRepeat]
    refine (State.afterJoin_idleFill (s := { s with pool.repeatQueue := s.pool.repeatQueue ++ [b] }) idle).trans ?_
    refine (State.arbitrate_repeatOnly (s := { s with pool.repeatQueue := s.pool.repeatQueue ++ [b] }) joined noInsert).trans ?_
    exact congrArg (fun p : BufferPool =>
      { s with pool := p, tx.state := .sending ready .fromRepeat, tx.credit := 0 }) kept
  · have joined : s.tx.insertQueue ++ [b] = [b] := by rw [noInsert, List.nil_append]
    refine (State.afterJoin_idleFill (s := { s with tx.insertQueue := s.tx.insertQueue ++ [b] }) idle).trans ?_
    refine (State.arbitrate_insertOnly (s := { s with tx.insertQueue := s.tx.insertQueue ++ [b] }) noRepeat joined).trans ?_
    exact congrArg (fun q : List Buffer =>
      { s with tx.insertQueue := q, tx.state := .sending ready .fromInsert, tx.credit := 0 }) noInsert.symm

/-! ## Transmit completions (R38, R40, R44 to R46, R162) -/

theorem State.finishFrame_eq (s : State) (b : Buffer) (tag : Tag) :
    s.finishFrame b tag = { s with
      pool.free := s.pool.free + 1
      tx := { s.tx with
        state := .idleFill, gap := 0
        framesSent := if tag = .fromInsert then s.tx.framesSent + 1 else s.tx.framesSent }
      downstream := s.downstream ++ List.replicate (2 - s.tx.gap) (Sent.symbol .idle) ++ [.frame b.octets] } := by
  cases tag <;> simp [State.finishFrame, State.release, sentFrame]

theorem State.completeTransmission_sending (straps : BitVec 6) {b : Buffer} {tag : Tag}
    (sends : s.tx.state = .sending b tag) :
    s.completeTransmission straps
      = if b.resetReply && s.cmd.resetPending then (s.finishFrame b tag).fullReset straps
        else (s.finishFrame b tag).arbitrate := by
  simp only [State.completeTransmission, sends]

/-- Settles O33: the frame is finished and the arbiter's table is consulted on what is left. -/
theorem completionFreesAndArbitrates : Obligations.CompletionFreesAndArbitrates := by
  unfold Obligations.CompletionFreesAndArbitrates
  intro s straps b r i rs is tag sends plain done ready sendR sendI
  have finished : exec (.transmitCompletion straps) s = .next done.arbitrate := by
    refine congrArg Host.Outcome.next ((State.completeTransmission_sending straps sends).trans ?_)
    rw [if_neg (Bool.eq_false_iff.1 plain), State.finishFrame_eq]
  rw [finished]
  refine ⟨fun noRepeat noInsert => congrArg _ (State.arbitrate_idle (s := done) noRepeat noInsert),
    fun repeats noInsert => congrArg _ (State.arbitrate_repeatOnly (s := done) repeats noInsert),
    fun noRepeat inserts => congrArg _ (State.arbitrate_insertOnly (s := done) noRepeat inserts),
    fun repeats inserts low => congrArg _ ((State.arbitrate_both (s := done) repeats inserts).trans (if_pos low)),
    fun repeats inserts high =>
      congrArg _ ((State.arbitrate_both (s := done) repeats inserts).trans (if_neg (Nat.not_lt.2 high)))⟩

/-- Settles O34. -/
theorem resetReplyCompletionStartsFullReset : Obligations.ResetReplyCompletionStartsFullReset := by
  unfold Obligations.ResetReplyCompletionStartsFullReset
  intro s straps b tag sends reply pending
  refine congrArg Host.Outcome.next ((State.completeTransmission_sending straps sends).trans ?_)
  rw [if_pos (by rw [reply, pending]; rfl), State.fullReset_eq, State.finishFrame_eq]

end Sys2Proof.Machine
end

section
/-! The statements about the state right after reset and about the layouts of replies and records (R167, R174, R179). -/

namespace Sys2Proof.Machine

variable {s : State}

/-! ## The laws at reset -/

theorem State.reset_checkLaw : State.reset.CheckLaw :=
  ⟨List.forall_mem_nil _, List.forall_mem_nil _, (fun _ sending => nomatch sending),
    (fun _ recorded => nomatch recorded), List.forall_mem_nil _⟩

theorem State.reset_queueOrder : State.reset.QueueOrder := ⟨Nat.zero_le _, List.forall_mem_nil _, .nil⟩

theorem State.reset_runLaw : State.reset.RunLaw := ⟨(fun armed => nomatch armed), fun _ => rfl, fun _ => rfl⟩

/-- Settles O59: each block's reset value obeys its law. -/
theorem resetObeysEveryLaw : Obligations.ResetObeysEveryLaw := by
  unfold Obligations.ResetObeysEveryLaw
  intro s
  exact ⟨State.reset_bufferLaw rfl rfl rfl, State.reset_checkLaw, everyStepAccountsForSteps.1, State.reset_queueOrder,
    State.reset_runLaw, EventList.reset_law, ⟨Bank.reset_law, Bank.reset_law, Bank.reset_law, List.forall_mem_nil _⟩,
    fun _ => ⟨Bank.reset_atSafePattern, Bank.reset_atSafePattern, Bank.reset_atSafePattern⟩,
    AddressTable.sampled_law 0, ⟨State.reset_paramLaw, Timebase.reset_law⟩, LinkReceiver.reset_law⟩

/-! ## Numbers (R179) -/

/-- Octets put side by side: the left one counts the right one's width in powers of 2. -/
theorem toNat_append_eq {m n : Nat} (x : BitVec m) (y : BitVec n) : (x ++ y).toNat = x.toNat * 2 ^ n + y.toNat := by
  rw [BitVec.toNat_append, Nat.shiftLeft_eq, Nat.mul_comm, ← Nat.two_pow_add_eq_or_of_lt y.isLt, Nat.mul_comm]

theorem word16_toNat (hi lo : Octet) : (word16 hi lo).toNat = hi.toNat * 256 + lo.toNat := toNat_append_eq hi lo

theorem word32_toNat (o3 o2 o1 o0 : Octet) :
    (word32 o3 o2 o1 o0).toNat = o3.toNat * 16777216 + o2.toNat * 65536 + o1.toNat * 256 + o0.toNat := by
  rw [word32, toNat_append_eq, word16_toNat, word16_toNat]
  omega

theorem zeroOctet : (0 : Octet).toNat = 0 := rfl

theorem zeroWord : (0 : Word16).toNat = 0 := rfl

theorem RunState.code_zeroExtend (r : RunState) : (r.code.zeroExtend 8).toNat = r.code.toNat := by
  cases r <;> rfl

theorem SyncState.code_zeroExtend (x : SyncState) : (x.code.zeroExtend 8).toNat = x.code.toNat := by
  cases x <;> rfl

theorem flagBit_toNat (b : Bool) : (flagBit b).toNat = if b then 1 else 0 := by
  cases b <;> rfl

theorem octets16_toNat (w : Word16) : (octets16 w).map (·.toNat) = [w.toNat / 256, w.toNat % 256] := by
  have high : w.toNat / 256 < 256 := by omega
  simp [octets16, BitVec.extractLsb'_toNat, Nat.shiftRight_eq_div_pow, Nat.mod_eq_of_lt high]

theorem octets32_toNat (w : Word32) : (octets32 w).map (·.toNat)
    = [w.toNat / 16777216, w.toNat / 65536 % 256, w.toNat / 256 % 256, w.toNat % 256] := by
  have high : w.toNat / 16777216 < 256 := by omega
  simp [octets32, BitVec.extractLsb'_toNat, Nat.shiftRight_eq_div_pow, Nat.mod_eq_of_lt high]

/-! ## Codes of the enumerations (Tables 11.8, 11.9, 11.12) -/

theorem EventList.attention_iff (l : EventList) :
    l.attention = true ↔ ∃ e ∈ l.records, e.fetched = false ∧ l.attentionLevel.code.toNat ≤ e.severity.code.toNat := by
  simp [EventList.attention, Severity.atLeast]

theorem stateOctet_toNat (run : RunState) (sync : SyncState) (link : LinkState) (attention : Bool) :
    (stateOctet run sync link attention).toNat
      = 64 * run.code.toNat + 16 * sync.code.toNat + 8 * link.code.toNat + 4 * (flagBit attention).toNat := by
  simp only [stateOctet, toNat_append_eq, BitVec.toNat_ofNat]
  omega

theorem Step.control_toNat (st : Step) :
    st.control.toNat = (bankCode st.bank).toNat + 4 * (flagBit (st.mode == .breakBeforeMake)).toNat
      + 8 * (flagBit (st.policy == .apply)).toNat + 16 * (flagBit st.pulse.isSome).toNat := by
  simp only [Step.control, toNat_append_eq, BitVec.toNat_ofNat]
  omega

theorem EventRecord.flags_toNat (e : EventRecord) :
    e.flags.toNat = e.severity.code.toNat + 4 * (flagBit e.timeValid).toNat + 8 * (flagBit e.tag.isSome).toNat
      + 16 * (flagBit e.detail.isSome).toNat := by
  simp only [EventRecord.flags, toNat_append_eq, BitVec.toNat_ofNat]
  omega

/-- Settles O60: numbers by their octets, codes and flags by their places, reports by their kinds. -/
theorem repliesAndRecordsHaveTheirLayouts : Obligations.RepliesAndRecordsHaveTheirLayouts := by
  unfold Obligations.RepliesAndRecordsHaveTheirLayouts
  intro flag rank run sync
  have rankCode (x : Severity) : x.code.toNat = rank x := by cases x <;> rfl
  have runCode (x : RunState) : x.code.toNat = run x := by cases x <;> rfl
  have syncCode (x : SyncState) : x.code.toNat = sync x := by cases x <;> rfl
  have linkCode (x : LinkState) : x.code.toNat = flag (x == .up) := by cases x <;> rfl
  have flagCode (b : Bool) : (flagBit b).toNat = flag b := flagBit_toNat b
  refine ⟨octets16_toNat, octets32_toNat, fun l => ?_, fun s => ?_, fun r => ?_, ?_, fun e flags named => ?_, fun r => ?_⟩
  · simp only [l.attention_iff, rankCode]
  · rw [State.stateOctet, stateOctet_toNat, runCode, syncCode, linkCode, flagCode]
  · cases r <;> rfl
  · intro st position control bank named
    have place : (bankCode st.bank).toNat = bank := by
      unfold bank
      cases st.bank <;> rfl
    have same : control = st.control := by
      refine BitVec.eq_of_toNat_eq (named.trans ?_)
      rw [st.control_toNat, place, flagCode, flagCode, flagCode]
    rw [same]
    rfl
  · have same : flags = e.flags := by
      refine BitVec.eq_of_toNat_eq (named.trans ?_)
      rw [e.flags_toNat, rankCode, flagCode, flagCode, flagCode]
    rw [same]
    rfl
  · have row {code severity coalesces : Nat} {reason reason' : Option Nat} {tag tag' : Option Word16}
        {detail detail' : Option Nat} (sameReason : reason = reason') (sameTag : tag = tag') (sameDetail : detail = detail') :
        (code, severity, coalesces, reason, tag, detail) = (code, severity, coalesces, reason', tag', detail') := by
      rw [sameReason, sameTag, sameDetail]
    cases r with
    | reset cause => cases cause <;> rfl
    | frameError reason => cases reason <;> rfl
    | noBuffer => rfl
    | returned dest kind =>
      have detail : (word32 dest kind 0 0).toNat = dest.toNat * 16777216 + kind.toNat * 65536 := by
        rw [word32_toNat, zeroOctet, Nat.zero_mul, Nat.add_zero]
      exact row rfl rfl (congrArg some detail)
    | unexpectedFrame cls dest kind code =>
      have detail : (word32 dest kind code 0).toNat = dest.toNat * 16777216 + kind.toNat * 65536 + code.toNat * 256 := by
        rw [word32_toNat, zeroOctet, Nat.add_zero]
      exact row (by cases cls <;> rfl) rfl (congrArg some detail)
    | commandDropped reason code seq =>
      have detail : (word16 0 code ++ seq).toNat = code.toNat * 65536 + seq.toNat := by
        rw [toNat_append_eq, word16_toNat, zeroOctet]
        omega
      exact row (by cases reason <;> rfl) rfl (congrArg some detail)
    | linkChange entered => cases entered <;> rfl
    | syncChange left entered =>
      have detail : (word32 0 0 (left.code.zeroExtend 8) (entered.code.zeroExtend 8)).toNat
          = sync left * 256 + sync entered := by
        rw [word32_toNat, zeroOctet, left.code_zeroExtend, entered.code_zeroExtend, syncCode, syncCode]
        omega
      have severity : rank (Report.syncChange left entered).severity = if entered = .unsynced then 2 else 0 := by
        cases entered <;> rfl
      exact (congrArg (fun n => (8, n, _)) severity).trans (row rfl rfl (congrArg some detail))
    | timeStepped amount epochFlag => cases epochFlag <;> rfl
    | stepRejected reason tag => cases reason <;> rfl
    | badSchedule seq =>
      have detail : ((0 : Word16) ++ seq).toNat = seq.toNat := by
        rw [toNat_append_eq, zeroWord, Nat.zero_mul, Nat.zero_add]
      exact row rfl rfl (congrArg some detail)
    | lateApplied tag lateness => rfl
    | lateDropped tag lateness => rfl
    | suppressed => rfl
    | flushed cause removed => cases cause <;> rfl
    | runChange cause left entered removed =>
      have detail : (word16 (left.code.zeroExtend 8) (entered.code.zeroExtend 8) ++ BitVec.ofNat 16 removed).toNat
          = run left * 16777216 + run entered * 65536 + removed % 65536 := by
        rw [toNat_append_eq, word16_toNat, left.code_zeroExtend, entered.code_zeroExtend, runCode, runCode,
          BitVec.toNat_ofNat]
        omega
      have severity : rank (Report.runChange cause left entered removed).severity = if entered = .failsafe then 2 else 0 := by
        cases entered <;> rfl
      exact (congrArg (fun n => (16, n, _)) severity).trans (row (by cases cause <;> rfl) rfl (congrArg some detail))
    | overflow lost => rfl

end Sys2Proof.Machine
end
